-- ==== Sys2Proof/Word.lean ====
section
/-! DEFINITION. Octets, the three axes and per-axis records (Introduction, "Axes"; R200). -/

namespace Sys2Proof

/-- One octet of either link (R200). -/
abbrev Byte := BitVec 8

/-- The three axes, numbered 0, 1 and 2 in this order (Introduction, "Axes"). -/
inductive Axis where
  | az
  | el
  | rot
deriving DecidableEq, Repr

/-- One value for each axis. -/
structure Tri (α : Type) where
  az : α
  el : α
  rot : α
deriving DecidableEq, Repr, Inhabited

/-- The value of one axis. -/
def Tri.get {α : Type} (x : Tri α) : Axis → α
  | .az => x.az
  | .el => x.el
  | .rot => x.rot

/-- The record with one axis's value replaced. -/
def Tri.set {α : Type} (x : Tri α) (i : Axis) (v : α) : Tri α :=
  match i with
  | .az => { x with az := v }
  | .el => { x with el := v }
  | .rot => { x with rot := v }

/-- The same function applied to each axis's value. -/
def Tri.map {α β : Type} (f : α → β) (x : Tri α) : Tri β :=
  ⟨f x.az, f x.el, f x.rot⟩

/-- A record built from a function of the axis. -/
def Tri.of {α : Type} (f : Axis → α) : Tri α :=
  ⟨f .az, f .el, f .rot⟩

/-- Whether every axis's value passes a test. -/
def Tri.all {α : Type} (p : α → Bool) (x : Tri α) : Bool :=
  p x.az && p x.el && p x.rot

/-- Whether some axis's value passes a test. -/
def Tri.any {α : Type} (p : α → Bool) (x : Tri α) : Bool :=
  p x.az || p x.el || p x.rot

/-- The AZ, EL and ROT values in turn (R203). -/
def Tri.list {α : Type} (x : Tri α) : List α := [x.az, x.el, x.rot]

end Sys2Proof
end

