-- ==== Sys2Proof/Syntax.lean ====
section
/-! DEFINITION. The commands of the block: one constructor for each row of the table of operations and events. -/

namespace Sys2Proof

/-- A command. `dt` is the number of microseconds of the part's time base that pass between the command before and
this one; the command is taken at the Mount Time that results (R179, DESIGN CHOICE, log 1). A request command
takes the frame at the head of the receive queue, which carries its tag and its payload (R188, R191). -/
inductive Instr where
  /-- Power is applied, with the service strap at this level (R184, R185). -/
  | powerOnReset (strapHigh : Bool)
  /-- The link reset that follows the sending of the reply to an accepted RESET (R185). -/
  | linkReset (dt : Nat)
  /-- A frame on the Mount Link: the octets received after its delimiter, as they stand on the wire (R187, R200). -/
  | mountLinkFrame (dt : Nat) (octets : List Byte)
  /-- The sending of a reply completes (R188). -/
  | replySent (dt : Nat)
  /-- The queued frame at the head, whose kind is no request kind, is taken (R191). -/
  | unknownKind (dt : Nat)
  /-- A built event notice is sent (R196). -/
  | eventNotice (dt : Nat)
  /-- The queued TIME SET at the head is taken (R179). -/
  | timeSet (dt : Nat)
  /-- The queued KEEPALIVE at the head is taken (R181). -/
  | keepalive (dt : Nat)
  /-- The queued UNPARK at the head is taken (R171). -/
  | unpark (dt : Nat)
  /-- The queued RUN at the head is taken (R173). -/
  | run (dt : Nat)
  /-- The queued STOP at the head is taken (R173). -/
  | stop (dt : Nat)
  /-- The queued HOLD at the head is taken (R173). -/
  | hold (dt : Nat)
  /-- The queued RESUME at the head is taken (R173). -/
  | resume (dt : Nat)
  /-- The queued PARK at the head is taken (R174). -/
  | park (dt : Nat)
  /-- The queued STOW at the head is taken (R175). -/
  | stow (dt : Nat)
  /-- The queued RELEASE at the head is taken (R178). -/
  | release (dt : Nat)
  /-- The queued FAULT CLEAR at the head is taken (R178). -/
  | faultClear (dt : Nat)
  /-- The queued RESET at the head is taken (R185). -/
  | reset (dt : Nat)
  /-- The queued ENTRY ADD at the head is taken (R6). -/
  | entryAdd (dt : Nat)
  /-- The queued ENTRY WITHDRAW at the head is taken (R7). -/
  | entryWithdraw (dt : Nat)
  /-- The queued LIST READ at the head is taken (R8). -/
  | listRead (dt : Nat)
  /-- The queued OUTCOME FETCH at the head is taken (R27). -/
  | outcomeFetch (dt : Nat)
  /-- The queued SEGMENT PUT at the head is taken (R37). -/
  | segmentPut (dt : Nat)
  /-- The queued GUIDE CORRECTION at the head is taken (R105). -/
  | guideCorrection (dt : Nat)
  /-- The queued LOAD BEGIN at the head is taken (R157). -/
  | loadBegin (dt : Nat)
  /-- The queued LOAD DATA at the head is taken (R158). -/
  | loadData (dt : Nat)
  /-- The queued LOAD BURST END at the head is taken (R160). -/
  | loadBurstEnd (dt : Nat)
  /-- The queued LOAD END at the head is taken (R161). -/
  | loadEnd (dt : Nat)
  /-- The queued LOAD ABORT at the head is taken (R164). -/
  | loadAbort (dt : Nat)
  /-- The queued TABLE READ at the head is taken (R167). -/
  | tableRead (dt : Nat)
  /-- The queued CAPABILITY READ at the head is taken (R197). -/
  | capabilityRead (dt : Nat)
  /-- The queued STATUS READ at the head is taken (R198). -/
  | statusRead (dt : Nat)
  /-- The queued EVENT READ CLEAR at the head is taken (R195). -/
  | eventReadClear (dt : Nat)
  /-- The queued EVENT MASK SET at the head is taken (R194). -/
  | eventMaskSet (dt : Nat)
  /-- A frame from a drive on the Axis Bus: the octets between its delimiters, as they stand on the wire (R123, R204).
  -/
  | encoderReport (dt : Nat) (octets : List Byte)
  /-- The demand expiry of this Mount Time (R74). -/
  | demandExpiry (dt : Nat)
  /-- The not-before timer expires (R14). -/
  | notBeforeTimer (dt : Nat)
  /-- The deadline timer expires (R13). -/
  | deadlineTimer (dt : Nat)
  /-- The track-wait timer expires (R15). -/
  | trackWaitTimer (dt : Nat)
  /-- The settle deadline expires (R20). -/
  | settleDeadline (dt : Nat)
  /-- The guide silence timer expires (R110). -/
  | silenceTimer (dt : Nat)
  /-- The acquire timer expires (R111). -/
  | acquireTimer (dt : Nat)
  /-- The lost timer expires (R112). -/
  | lostTimer (dt : Nat)
  /-- The rest timer expires (R146). -/
  | restTimer (dt : Nat)
  /-- The check timer expires (R147). -/
  | checkTimer (dt : Nat)
  /-- The decay timer expires (R150). -/
  | decayTimer (dt : Nat)
  /-- The enabling timer expires (R172). -/
  | enablingTimer (dt : Nat)
  /-- The park or stow settle deadline expires (R176). -/
  | motionSettleDeadline (dt : Nat)
  /-- The supervision timer expires (R182). -/
  | supervisionTimer (dt : Nat)
  /-- A pass of the running plan begins (R55). -/
  | planPass (dt : Nat)
  /-- The running plan completes (R66). -/
  | planCompletion (dt : Nat)
  /-- The time base runs on until Mount Time reaches 2^48 − 1 (R179). -/
  | mountTimeHold
deriving DecidableEq, Repr

end Sys2Proof
end

