-- ==== Sys2Proof/Decode.lean ====
section
/-! DEFINITION. The command a table word spells. No row of the table of operations and events gives bits: the
commands are events, and the octets of the links are read by Machine/Octets.lean and Machine/Operands.lean. -/

namespace Sys2Proof

/-- The table's rows give no bits, so no word spells a command. -/
def decodeTableWord (_nbits _w : Nat) : Option Instr := none

end Sys2Proof
end

