-- ==== Sys2Proof/Machine/Records.lean ====
section
/-! DEFINITION. The records of the ten units, each with the rule that lists its fields, and the octet each
enumeration takes on the links (R200: its place in the list where the manual first defines the set). -/

namespace Sys2Proof.Machine

/-! ## The Sequencer (The Night List and the Sequencer) -/

/-- Priority of an entry (R3, entry record). -/
inductive Priority where
  | normal
  | urgent
deriving DecidableEq, Repr, Inhabited

/-- Guide mode of an entry (R3, entry record). -/
inductive GuideMode where
  | none
  | optional
  | required
deriving DecidableEq, Repr, Inhabited

/-- Wrap preference of an entry (R3, entry record; R57). -/
inductive WrapPref where
  | nearest
  | high
  | low
deriving DecidableEq, Repr, Inhabited

/-- A Night List entry (R3, entry record). Its state QUEUED or ACTIVE is where it stands: in `SeqState.queue` or
in `SeqState.active`. -/
structure Entry where
  id : Nat
  priority : Priority
  notBefore : Option Nat
  notAfter : Option Nat
  dwell : Nat
  preemptible : Bool
  requeue : Bool
  minDwell : Option Nat
  guideMode : GuideMode
  wrapPref : WrapPref
  requeues : Nat
  trackWait : Option Nat
deriving DecidableEq, Repr

/-- Phase of the active observation (R17). -/
inductive Phase where
  | none
  | planning
  | slewing
  | settling
  | tracking
deriving DecidableEq, Repr

/-- How an observation ended or an entry was skipped (R25), in the order of R25. -/
inductive Ending where
  | done
  | expired
  | noTrack
  | noIntercept
  | wrap
  | horizon
  | noSettle
  | limit
  | rate
  | starved
  | noGuide
  | guideLost
  | gust
  | preempted
  | withdrawn
  | stopped
  | fault
deriving DecidableEq, Repr

/-- The wrap turns of the two circular axes, each −1, 0 or +1 (R17, R57, R73). -/
structure WrapTurns where
  az : Int
  rot : Int
deriving DecidableEq, Repr

/-- The active-target record (R17). -/
structure ActiveRec where
  target : Nat
  phase : Phase
  activation : Nat
  slewStart : Option Nat
  trackStart : Option Nat
  tracked : Nat
  wraps : Option WrapTurns
  settle : Tri Nat
  settleDeadline : Option Nat
  peak : Tri (Option Nat)
  corrections : Nat
  saturations : Nat
deriving DecidableEq, Repr

/-- An outcome record (R25). -/
structure OutcomeRec where
  target : Nat
  outcome : Ending
  requeued : Bool
  activation : Nat
  endTime : Nat
  tracked : Nat
  slewStart : Option Nat
  trackStart : Option Nat
  wraps : Option WrapTurns
  corrections : Nat
  saturations : Nat
  peak : Tri (Option Nat)
deriving DecidableEq, Repr

/-- The five hold reasons (R10), in the order of R10. -/
inductive HoldReason where
  | operator
  | outcomeFull
  | link
  | gustL1
  | gustRest
deriving DecidableEq, Repr

/-- The hold-reason set (R10): one mark for each reason. -/
structure HoldSet where
  operator : Bool
  outcomeFull : Bool
  link : Bool
  gustL1 : Bool
  gustRest : Bool
deriving DecidableEq, Repr

/-- What the Sequencer holds: the Night List (its ACTIVE entry and its queued order, R3), the active-target record
(R17), the run state (R9), the hold-reason set (R10), the Outcome Queue (R25) and the wait timers with the settle
deadline timer (R13, R14, R15, R19), each timer with its expiry time when it runs. -/
structure SeqState where
  active : Option Entry
  queue : List Entry
  atr : ActiveRec
  running : Bool
  holds : HoldSet
  outcomes : List OutcomeRec
  notBeforeTimer : Option Nat
  deadlineTimer : Option Nat
  trackWaitTimer : Option Nat
  settleTimer : Option Nat
deriving DecidableEq, Repr

/-! ## The Segment Store (Track Segments) -/

/-- The three coefficients of one axis (R30): position in mas, rate in µas/s, acceleration in µas/s². -/
structure Poly where
  p0 : Int
  v : Int
  a : Int
deriving DecidableEq, Repr

/-- A held segment (R30). Its end is derived. -/
structure Segment where
  target : Nat
  number : Nat
  start : Nat
  dur : Nat
  poly : Tri Poly
deriving DecidableEq, Repr

/-- What the Segment Store holds: every held segment, those of one target in start order (R31), and the low-track
arm flag (R46). -/
structure StoreState where
  held : List Segment
  lowArmed : Bool
deriving DecidableEq, Repr

/-! ## The Table Store (Loaded Tables) -/

/-- One axis's record of the Axis Parameter Set (R154). -/
structure AxisParams where
  lower : Int
  upper : Int
  vmax : Int
  amax : Int
  trackRate : Int
  settleTol : Nat
  settleTimeout : Nat
  warn : Nat
  l1 : Nat
  l2 : Nat
  runaway : Nat
  park : Int
  stow : Int
  gain : Nat
  stepMax : Int
  totalMax : Int
deriving DecidableEq, Repr, Inhabited

/-- A Correction Grid node (R155): the three components in mas. -/
abbrev GridNode := Tri Int

/-- The three tables (R153), numbered 0, 1 and 2 (R200). -/
inductive TableId where
  | params
  | grid
  | mask
deriving DecidableEq, Repr

/-- Status of a table (R153). -/
inductive TableStatus where
  | empty
  | loading
  | valid
  | invalid
deriving DecidableEq, Repr

/-- The first error of a load (R157). -/
inductive FirstError where
  | none
  | crc (burst : Nat)
  | overlong (burst : Nat)
deriving DecidableEq, Repr

/-- The load record (R157). -/
structure LoadRec where
  table : TableId
  declared : Nat
  stored : Nat
  excess : Nat
  burst : Nat
  burstCount : Nat
  check : BitVec 16
  firstError : FirstError
deriving DecidableEq, Repr

/-- The result of a load (R161, R164, R168). -/
inductive LoadResult where
  | ok
  | crc (burst : Nat)
  | overlong (burst : Nat)
  | short
  | validation (index : Nat)
  | aborted
deriving DecidableEq, Repr

/-- The last load result (R168). -/
structure LastLoad where
  table : TableId
  result : LoadResult
  stored : Nat
  excess : Nat
deriving DecidableEq, Repr

/-- What the Table Store holds (R153). Records are stored in index order (R158), so the record of index `k` is
present exactly when `k` is below the length of its table's list. -/
structure TableState where
  params : List AxisParams
  grid : List GridNode
  mask : List Int
  paramsStatus : TableStatus
  gridStatus : TableStatus
  maskStatus : TableStatus
  load : Option LoadRec
  lastLoad : Option LastLoad
deriving DecidableEq, Repr

/-! ## The Slew Planner (Slew Planning) -/

/-- Kind of a plan (R51). -/
inductive PlanKind where
  | target
  | park
  | stow
deriving DecidableEq, Repr

/-- Outcome of a plan (R51, R61). -/
inductive PlanOutcome where
  | success
  | noTrack
  | wrap
  | noIntercept
  | horizon
deriving DecidableEq, Repr

/-- The result of a planned axis (R51): distance D, slew time T, acceleration time ta and run time tc (R58). -/
structure SlewResult where
  dist : Int
  time : Nat
  ta : Nat
  tc : Nat
deriving DecidableEq, Repr

/-- Where one axis's iteration stands (R59): still iterating with the slew time of the pass before, converged,
failed, or not planned (AZ and ROT of a STOW plan, R51). -/
inductive AxisWork where
  | notPlanned
  | iterating (time : Nat)
  | converged (r : SlewResult)
  | failed (o : PlanOutcome)
deriving DecidableEq, Repr

/-- The table values a plan reads in pass 1 and uses in its later passes (R55, R166). -/
structure PlanTables where
  params : Tri AxisParams
  grid : Option (List GridNode)
deriving DecidableEq, Repr

/-- A plan record (R51). `markHeld` is the validity mark (R64); `stopped` is the outcome of a plan whose work
stopped in pass 1 (R61 cases 1 and 2). -/
structure PlanRec where
  kind : PlanKind
  target : Option Nat
  request : Nat
  start : Option Nat
  ts : Nat
  ps : Tri Int
  markHeld : Bool
  wraps : Option WrapTurns
  passes : Tri Nat
  work : Tri AxisWork
  stopped : Option PlanOutcome
  tables : Option PlanTables
deriving DecidableEq, Repr

/-- What the Slew Planner holds (R52, R67, R68). -/
structure PlannerState where
  running : Option PlanRec
  waiting : Option PlanRec
  installed : Nat
  discarded : Nat
deriving DecidableEq, Repr

/-! ## The Trajectory Unit (The Demand Computation) -/

/-- Motion mode of an axis (R73). -/
inductive Motion where
  | hold
  | brake
  | project
  | slew
  | track
  | coast
deriving DecidableEq, Repr

/-- Projection line (R79). -/
structure ProjLine where
  base : Int
  baseTime : Nat
  step : Int
deriving DecidableEq, Repr

/-- The motion an axis enters when its slew ends (R63). -/
inductive FollowOn where
  | track
  | hold
deriving DecidableEq, Repr

/-- An installed profile (R63, R80). -/
structure Profile where
  ts : Nat
  ps : Int
  dist : Int
  ta : Nat
  tc : Nat
  time : Nat
  follow : FollowOn
deriving DecidableEq, Repr

/-- Kind of coverage of an answer of the Segment Store (R40). -/
inductive Coverage where
  | within
  | forward
  | backward
  | uncovered
deriving DecidableEq, Repr

/-- The Trajectory Unit's record of one axis (R73). `velocity` is the velocity last sent (R99). -/
structure AxisMotion where
  motion : Motion
  last : Option Int
  prev : Option Int
  line : Option ProjLine
  profile : Option Profile
  clampRun : Nat
  velTally : Nat
  posTally : Nat
  velocity : Int
deriving DecidableEq, Repr

/-- What the Trajectory Unit holds (R73). `lastTime` is the demand time of the last demand (R54, R79) and
`nextExpiry` the earliest Mount Time at which the next demand expiry may occur (R74). -/
structure TrajState where
  axes : Tri AxisMotion
  wraps : WrapTurns
  coverage : Option Coverage
  lastTime : Nat
  nextExpiry : Nat
deriving DecidableEq, Repr

/-! ## The Guide Unit (Guiding) -/

/-- Guide state (R100). -/
inductive GuidePhase where
  | off
  | waiting
  | guiding
  | lost
  | suspended
deriving DecidableEq, Repr

/-- What the Guide Unit holds (R100). -/
structure GuideState where
  phase : GuidePhase
  mode : GuideMode
  azOffset : Int
  elOffset : Int
  lastSeq : Option (BitVec 16)
  corrections : Nat
  saturations : Nat
  suspendFlag : Bool
  silenceTimer : Option Nat
  acquireTimer : Option Nat
  lostTimer : Option Nat
deriving DecidableEq, Repr

/-! ## The Axis Bus Controller (The Axis Bus) -/

/-- State of an axis on the bus (R118). -/
inductive AxisState where
  | ok
  | silent
  | driveFault
deriving DecidableEq, Repr

/-- Drive state of an encoder report (R123). -/
inductive DriveState where
  | disabled
  | enabled
  | fault
deriving DecidableEq, Repr

/-- Brake state of an encoder report (R123). -/
inductive BrakeState where
  | released
  | engaged
deriving DecidableEq, Repr

/-- Drive command of a demand frame (R118, R121). -/
inductive DriveCmd where
  | enable
  | disable
deriving DecidableEq, Repr

/-- Brake command of a demand frame (R118, R121). -/
inductive BrakeCmd where
  | release
  | engage
deriving DecidableEq, Repr

/-- Rest override (R118, R122). -/
inductive RestOverride where
  | none
  | armed
  | active
deriving DecidableEq, Repr

/-- A demand history entry (R120); `pos` is absent when it is marked unset. -/
structure HistEntry where
  seq : BitVec 16
  pos : Option Int
  answered : Bool
deriving DecidableEq, Repr

/-- The controller's fields of one axis (R118). -/
structure AxisRec where
  history : List HistEntry
  state : AxisState
  silence : Nat
  heard : Bool
  measured : Option Int
  error : Option Int
  echo : Option (BitVec 16)
  drive : Option DriveState
  brake : Option BrakeState
  stale : Nat
deriving DecidableEq, Repr

/-- A demand frame as it is sent (R119, R204). -/
structure DemandFrame where
  seq : BitVec 16
  time : Nat
  drive : DriveCmd
  brake : BrakeCmd
  pos : Tri Int
  vel : Tri Int
deriving DecidableEq, Repr

/-- What the Axis Bus Controller holds (R118); `frame` is the demand frame last sent on the bus (R119). -/
structure BusState where
  seq : BitVec 16
  override : RestOverride
  lastDrive : Option DriveCmd
  lastBrake : Option BrakeCmd
  corrupted : Nat
  axes : Tri AxisRec
  frame : Option DemandFrame
deriving DecidableEq, Repr

/-- An encoder report that is not corrupted (R123). -/
structure Report where
  axis : Axis
  echo : BitVec 16
  measured : Int
  drive : DriveState
  brake : BrakeState
deriving DecidableEq, Repr

/-! ## The Load Monitor (Following Error and Gust Protection) -/

/-- Gust level (R135). -/
inductive GustLevel where
  | none
  | l1
deriving DecidableEq, Repr

/-- Rest phase (R135). -/
inductive RestPhase where
  | none
  | braking
  | resting
  | checking
deriving DecidableEq, Repr

/-- The Load Monitor's fields of one axis (R135). -/
structure AxisGust where
  warn : Nat
  l1 : Nat
  l2 : Nat
  warnArmed : Bool
  release : Nat
  runaway : Nat
  enabled : Bool
deriving DecidableEq, Repr

/-- What the Load Monitor holds (R135). -/
structure GustState where
  axes : Tri AxisGust
  level : GustLevel
  rest : RestPhase
  restTimer : Option Nat
  checkTimer : Option Nat
  count : Nat
  decayTimer : Option Nat
  stowHeld : Bool
deriving DecidableEq, Repr

/-! ## The Mode Controller (Mount Modes, Supervision and the Alert Line) -/

/-- Mount mode (R169). -/
inductive Mode where
  | parked
  | enabling
  | ready
  | observing
  | parking
  | stowing
  | stowed
  | fault
deriving DecidableEq, Repr

/-- Motion settle state (R169). -/
inductive MotionSettle where
  | off
  | awaiting
  | counting
deriving DecidableEq, Repr

/-- Supervision state (R169). -/
inductive Supervision where
  | off
  | initial
  | periodic
deriving DecidableEq, Repr

/-- The alert causes (R169), in the order of R169. -/
inductive AlertCause where
  | supervision
  | gust
  | axis
  | stow
deriving DecidableEq, Repr

/-- The alert cause set (R169): one mark for each cause. -/
structure AlertSet where
  supervision : Bool
  gust : Bool
  axis : Bool
  stow : Bool
deriving DecidableEq, Repr

/-- What the Mode Controller holds (R169). `motionStart` is the t_s received at a park or stow installation
(R67, R176). -/
structure ModeState where
  mode : Mode
  mountTime : Nat
  timeSet : Bool
  strapHigh : Bool
  enablingTimer : Option Nat
  enabled : Tri Bool
  settle : MotionSettle
  settleCount : Tri Nat
  settleDeadline : Option Nat
  motionStart : Option Nat
  supervision : Supervision
  supTimer : Option Nat
  toggle : Bool
  period : Nat
  lastCounted : Option Nat
  consecutive : Nat
  failures : Nat
  alerts : AlertSet
deriving DecidableEq, Repr

/-! ## The Link Interface (The Mount Link) -/

/-- A good request frame as it stands in the receive queue (R187, R188). -/
structure Frame where
  kind : Byte
  tag : Byte
  payload : List Byte
deriving DecidableEq, Repr

/-- The frames the part itself sends (R201): replies (kind 128) and event notices (kind 129). -/
inductive OutFrame where
  | reply (tag : Byte) (payload : List Byte)
  | notice (payload : List Byte)
deriving DecidableEq, Repr

/-- The sixteen event kinds, in bit order (R200). -/
inductive EventKind where
  | resetSeen
  | modeChanged
  | targetStarted
  | trackingBegun
  | targetEnded
  | listEmpty
  | segmentsDropped
  | segmentLow
  | guideChanged
  | gustWarn
  | gustL1
  | gustL2
  | supervisionFail
  | axisProblem
  | loadFinished
  | frameFault
deriving DecidableEq, Repr

/-- What the Link Interface holds (R188, R190, R193, R196). The head of `rx` is the frame being served while a reply
stands in `outbox`. `outbox` holds the frames built and not yet sent, first the one to be sent next; `sent` is
the frame last sent; `resetDue` says that an accepted RESET waits for its reply to be sent (R185). -/
structure LinkState where
  rx : List Frame
  frameFault : Bool
  badFrames : Nat
  overruns : Nat
  events : BitVec 16
  mask : BitVec 16
  noticeArmed : Bool
  outbox : List OutFrame
  sent : Option OutFrame
  resetDue : Bool
deriving DecidableEq, Repr

/-- The result codes (R192), in the order of R192. -/
inductive ResultCode where
  | ok
  | unknownKind
  | badLength
  | wrongMode
  | busy
  | full
  | duplicate
  | noSuchTarget
  | notNear
  | outOfOrder
  | expired
  | range
  | rate
  | notTracking
  | stale
  | early
  | noTime
  | notLoading
  | overlong
  | notReady
deriving DecidableEq, Repr

/-! ## Enumeration octets (R200) -/

/-- R200. -/
def Priority.code : Priority → Nat
  | .normal => 0
  | .urgent => 1

/-- R200. -/
def Phase.code : Phase → Nat
  | .none => 0
  | .planning => 1
  | .slewing => 2
  | .settling => 3
  | .tracking => 4

/-- R200: the order of R25. -/
def Ending.code : Ending → Nat
  | .done => 0
  | .expired => 1
  | .noTrack => 2
  | .noIntercept => 3
  | .wrap => 4
  | .horizon => 5
  | .noSettle => 6
  | .limit => 7
  | .rate => 8
  | .starved => 9
  | .noGuide => 10
  | .guideLost => 11
  | .gust => 12
  | .preempted => 13
  | .withdrawn => 14
  | .stopped => 15
  | .fault => 16

/-- R200. -/
def GuideMode.code : GuideMode → Nat
  | .none => 0
  | .optional => 1
  | .required => 2

/-- R200. -/
def TableId.code : TableId → Nat
  | .params => 0
  | .grid => 1
  | .mask => 2

/-- R200. -/
def TableStatus.code : TableStatus → Nat
  | .empty => 0
  | .loading => 1
  | .valid => 2
  | .invalid => 3

/-- R201: none, CRC, OVERLONG. -/
def FirstError.code : FirstError → Nat
  | .none => 0
  | .crc _ => 1
  | .overlong _ => 2

/-- R201: the burst number, 0 for none. -/
def FirstError.burst : FirstError → Nat
  | .none => 0
  | .crc n => n
  | .overlong n => n

/-- R200: OK, CRC, OVERLONG, SHORT, VALIDATION, ABORTED. -/
def LoadResult.code : LoadResult → Nat
  | .ok => 0
  | .crc _ => 1
  | .overlong _ => 2
  | .short => 3
  | .validation _ => 4
  | .aborted => 5

/-- R201: the burst number for CRC and OVERLONG, the failing record index for VALIDATION, 0 otherwise. -/
def LoadResult.detail : LoadResult → Nat
  | .crc n => n
  | .overlong n => n
  | .validation n => n
  | _ => 0

/-- R200. -/
def PlanKind.code : PlanKind → Nat
  | .target => 0
  | .park => 1
  | .stow => 2

/-- R200. -/
def Motion.code : Motion → Nat
  | .hold => 0
  | .brake => 1
  | .project => 2
  | .slew => 3
  | .track => 4
  | .coast => 5

/-- R200. -/
def Coverage.code : Coverage → Nat
  | .within => 0
  | .forward => 1
  | .backward => 2
  | .uncovered => 3

/-- R200. -/
def GuidePhase.code : GuidePhase → Nat
  | .off => 0
  | .waiting => 1
  | .guiding => 2
  | .lost => 3
  | .suspended => 4

/-- R200. -/
def AxisState.code : AxisState → Nat
  | .ok => 0
  | .silent => 1
  | .driveFault => 2

/-- R200, R204. -/
def DriveState.code : DriveState → Nat
  | .disabled => 0
  | .enabled => 1
  | .fault => 2

/-- R200, R204. -/
def BrakeState.code : BrakeState → Nat
  | .released => 0
  | .engaged => 1

/-- R200: ENABLE or DISABLE. -/
def DriveCmd.code : DriveCmd → Nat
  | .enable => 0
  | .disable => 1

/-- R200: RELEASE or ENGAGE. -/
def BrakeCmd.code : BrakeCmd → Nat
  | .release => 0
  | .engage => 1

/-- R200. -/
def RestOverride.code : RestOverride → Nat
  | .none => 0
  | .armed => 1
  | .active => 2

/-- R200. -/
def GustLevel.code : GustLevel → Nat
  | .none => 0
  | .l1 => 1

/-- R200. -/
def RestPhase.code : RestPhase → Nat
  | .none => 0
  | .braking => 1
  | .resting => 2
  | .checking => 3

/-- R200: PARKED is 0 and FAULT is 7. -/
def Mode.code : Mode → Nat
  | .parked => 0
  | .enabling => 1
  | .ready => 2
  | .observing => 3
  | .parking => 4
  | .stowing => 5
  | .stowed => 6
  | .fault => 7

/-- R200. -/
def MotionSettle.code : MotionSettle → Nat
  | .off => 0
  | .awaiting => 1
  | .counting => 2

/-- R200. -/
def Supervision.code : Supervision → Nat
  | .off => 0
  | .initial => 1
  | .periodic => 2

/-- R200: OK is 0 and NOT_READY is 19. -/
def ResultCode.code : ResultCode → Nat
  | .ok => 0
  | .unknownKind => 1
  | .badLength => 2
  | .wrongMode => 3
  | .busy => 4
  | .full => 5
  | .duplicate => 6
  | .noSuchTarget => 7
  | .notNear => 8
  | .outOfOrder => 9
  | .expired => 10
  | .range => 11
  | .rate => 12
  | .notTracking => 13
  | .stale => 14
  | .early => 15
  | .noTime => 16
  | .notLoading => 17
  | .overlong => 18
  | .notReady => 19

/-- R200: the bit of an event kind in the event set and the event mask. -/
def EventKind.bit : EventKind → Nat
  | .resetSeen => 0
  | .modeChanged => 1
  | .targetStarted => 2
  | .trackingBegun => 3
  | .targetEnded => 4
  | .listEmpty => 5
  | .segmentsDropped => 6
  | .segmentLow => 7
  | .guideChanged => 8
  | .gustWarn => 9
  | .gustL1 => 10
  | .gustL2 => 11
  | .supervisionFail => 12
  | .axisProblem => 13
  | .loadFinished => 14
  | .frameFault => 15

/-- The modes in which the drives are commanded enabled (9.2). -/
def Mode.isEnabled : Mode → Bool
  | .enabling => true
  | .ready => true
  | .observing => true
  | .parking => true
  | .stowing => true
  | .parked => false
  | .stowed => false
  | .fault => false

end Sys2Proof.Machine
end

