-- ==== Sys2Proof/Config.lean ====
section
/-! DEFINITION. The constants of the part (R197) and the values that the manual leaves open, as opaque constants
that no proof can evaluate. -/

namespace Sys2Proof.Config

/-! ## Capacities (R197) -/

/-- R3: target entries in the Night List, the active one included. -/
def listEntries : Nat := 96
/-- R25: outcome records. -/
def outcomeRecords : Nat := 32
/-- R31: segments in the store. -/
def storeSegments : Nat := 24
/-- R31: segments of one target. -/
def chainSegments : Nat := 12
/-- R5: queued entries in the lookahead window. -/
def windowQueued : Nat := 2
/-- R188: slots of the receive queue. -/
def rxSlots : Nat := 8
/-- R187: payload octets. -/
def maxPayload : Nat := 240
/-- R120: entries of one demand history. -/
def historyEntries : Nat := 8
/-- R200, R118: where counters and tallies are held. -/
def counterMax : Nat := 65535

/-! ## Times, in µs (R197) -/

/-- R179: the last value of Mount Time, 2^48 − 1. -/
def maxTime : Nat := 281474976710655
/-- R74. -/
def demandPeriod : Nat := 5000
/-- R53. -/
def planLead : Nat := 10000
/-- R55. -/
def passTime : Nat := 150
/-- R59: passes of one plan. -/
def maxPasses : Nat := 6
/-- R59. -/
def convergence : Nat := 2000
/-- R40. -/
def coastLimit : Nat := 2000000
/-- R46. -/
def segmentLowMark : Nat := 10000000
/-- R15. -/
def trackWait : Nat := 5000000
/-- R20. -/
def settleCount : Nat := 20
/-- R108, R110. -/
def guideSilence : Nat := 3000000
/-- R111. -/
def guideAcquire : Nat := 30000000
/-- R110, R112. -/
def guideLost : Nat := 9000000
/-- R128: demand periods. -/
def silencePeriods : Nat := 4
/-- R139: reports. -/
def gustDebounce : Nat := 3
/-- R142: reports. -/
def gustRelease : Nat := 1000
/-- R145. -/
def gustRest : Nat := 60000000
/-- R146. -/
def recheck : Nat := 2000000
/-- R143, R150. -/
def gustDecay : Nat := 600000000
/-- R144. -/
def gustStow : Nat := 5
/-- R171. -/
def enablingTimeout : Nat := 2000000
/-- R180. -/
def supInitial : Nat := 10000000
/-- R180: the period P on entry into supervision and after reset (R169). -/
def defaultPeriod : Nat := 2000000
/-- R182. -/
def supStow : Nat := 4
/-- R24. -/
def maxRequeues : Nat := 3
/-- R93. -/
def rateClamps : Nat := 20

/-! ## Angles, in mas -/

/-- Introduction: a full circle. -/
def circle : Int := 1296000000
/-- R85: width of a grid column. -/
def gridCol : Int := 54000000
/-- R85: height of a grid row. -/
def gridRow : Int := 36000000
/-- R91: width of a mask sector. -/
def sectorWidth : Int := 18000000
/-- R85, R32: 90°. -/
def zenith : Int := 324000000

/-! ## The burst check and the capability record -/

/-- R160: the burst check's seed. -/
def burstSeed : BitVec 16 := 0xC3A5
/-- R187, R119: the frame check's seed. -/
def frameSeed : BitVec 16 := 0xFFFF
/-- R158, R159: records in one LOAD DATA and in one burst. -/
def loadDataMax : Nat := 8
/-- R159. -/
def burstMax : Nat := 64
/-- R203: the part code. -/
def partCode : Nat := 0x0062

/-! ## Values the manual leaves open -/

/-- The revision number of the capability record (R197, R203), which the manual does not give. -/
opaque revision : BitVec 8

/-- What a field of `w` octets carries when the number it should carry does not fit it (R200, R203 state a rule for
the velocity of a demand frame alone, R204). -/
opaque unrepresentable : Nat → Int → Nat

/-- The margin shown for an active target whose chain is empty (R46 and R50 give no number for it). -/
opaque emptyMargin : Int

/-- The parameters read by a rule that the manual lets act only while the Axis Parameter Set is VALID (R165), when it
is not VALID. -/
opaque unstatedParams : Tri Machine.AxisParams

/-- The held demand of an unset axis at a plan request, which the manual's modes rule out (R76, R172). -/
opaque unstatedDemand : Int

/-- Which of several events that are due at one Mount Time is taken first (the manual gives the outcome of either
order and fixes none): the index for the given draw among the given number of events. -/
opaque tieChoice : Nat → Nat → Nat

end Sys2Proof.Config
end

