-- ==== Sys2Proof/Machine/State.lean ====
section
/-! DEFINITION. The state of the part, unit by unit, and its value after power-on reset. -/

namespace Sys2Proof.Machine

/-- No command stops the part with a fault: the manual gives every command its effect, so this type has no
constructor. -/
inductive Fault where
deriving DecidableEq, Repr

/-- The reasons a command has no meaning in the model. -/
inductive Refusal where
  /-- Raised by `exec` for a command the model gives no meaning yet (safe: the run stops). No arm raises it. -/
  | notModelled (mnemonic : String)
deriving DecidableEq, Repr

/-- The state of the part: the queue of waiting commands, the ten units, and the model's own draw counter. -/
structure State where
  /-- The commands that wait, first in, first out. -/
  pending : List Instr
  /-- The Link Interface. -/
  link : LinkState
  /-- The Sequencer. -/
  seq : SeqState
  /-- The Segment Store. -/
  store : StoreState
  /-- The Slew Planner. -/
  planner : PlannerState
  /-- The Trajectory Unit. -/
  traj : TrajState
  /-- The Guide Unit. -/
  guide : GuideState
  /-- The Axis Bus Controller. -/
  bus : BusState
  /-- The Load Monitor. -/
  gust : GustState
  /-- The Mode Controller. -/
  mode : ModeState
  /-- The Table Store. -/
  tables : TableState
  /-- The model's own counter of draws among events due together (log 3). -/
  draws : Nat
deriving DecidableEq, Repr

/-! ## Replacing one unit's state -/

/-- The state with another queue of waiting commands. -/
def State.setPending (s : State) (x : List Instr) : State := { s with pending := x }
/-- The state with another Link Interface state. -/
def State.setLink (s : State) (x : LinkState) : State := { s with link := x }
/-- The state with another Sequencer state. -/
def State.setSeq (s : State) (x : SeqState) : State := { s with seq := x }
/-- The state with another Segment Store state. -/
def State.setStore (s : State) (x : StoreState) : State := { s with store := x }
/-- The state with another Slew Planner state. -/
def State.setPlanner (s : State) (x : PlannerState) : State := { s with planner := x }
/-- The state with another Trajectory Unit state. -/
def State.setTraj (s : State) (x : TrajState) : State := { s with traj := x }
/-- The state with another Guide Unit state. -/
def State.setGuide (s : State) (x : GuideState) : State := { s with guide := x }
/-- The state with another Axis Bus Controller state. -/
def State.setBus (s : State) (x : BusState) : State := { s with bus := x }
/-- The state with another Load Monitor state. -/
def State.setGust (s : State) (x : GustState) : State := { s with gust := x }
/-- The state with another Mode Controller state. -/
def State.setMode (s : State) (x : ModeState) : State := { s with mode := x }
/-- The state with another Table Store state. -/
def State.setTables (s : State) (x : TableState) : State := { s with tables := x }
/-- The state with another draw counter. -/
def State.setDraws (s : State) (x : Nat) : State := { s with draws := x }

/-! ## Reset values -/

/-- No wrap turn on either circular axis. -/
def WrapTurns.zero : WrapTurns := ⟨0, 0⟩

/-- The empty hold-reason set (R10). -/
def HoldSet.none : HoldSet := ⟨false, false, false, false, false⟩

/-- The empty alert cause set (R183). -/
def AlertSet.none : AlertSet := ⟨false, false, false, false⟩

/-- The active-target record at a reset (R17). The manual shows no number for the activation time of a record that
describes no observation: it is the Mount Time of the reset (DESIGN CHOICE, log 5). -/
def ActiveRec.reset (now : Nat) : ActiveRec where
  target := 0
  phase := .none
  activation := now
  slewStart := none
  trackStart := none
  tracked := 0
  wraps := none
  settle := ⟨0, 0, 0⟩
  settleDeadline := none
  peak := ⟨none, none, none⟩
  corrections := 0
  saturations := 0

/-- The Sequencer after a reset (R28). -/
def SeqState.reset (now : Nat) : SeqState where
  active := none
  queue := []
  atr := ActiveRec.reset now
  running := false
  holds := HoldSet.none
  outcomes := []
  notBeforeTimer := none
  deadlineTimer := none
  trackWaitTimer := none
  settleTimer := none

/-- The Segment Store after a reset (R49). -/
def StoreState.reset : StoreState where
  held := []
  lowArmed := true

/-- The Slew Planner after a reset (R71). -/
def PlannerState.reset : PlannerState where
  running := none
  waiting := none
  installed := 0
  discarded := 0

/-- One axis of the Trajectory Unit after a reset (R73). -/
def AxisMotion.reset : AxisMotion where
  motion := .hold
  last := none
  prev := none
  line := none
  profile := none
  clampRun := 0
  velTally := 0
  posTally := 0
  velocity := 0

/-- The Trajectory Unit after a reset, with the next expiry given (R73, R185). -/
def TrajState.reset (nextExpiry : Nat) : TrajState where
  axes := ⟨AxisMotion.reset, AxisMotion.reset, AxisMotion.reset⟩
  wraps := WrapTurns.zero
  coverage := none
  lastTime := 0
  nextExpiry := nextExpiry

/-- The Guide Unit after a reset (R100). -/
def GuideState.reset : GuideState where
  phase := .off
  mode := .none
  azOffset := 0
  elOffset := 0
  lastSeq := none
  corrections := 0
  saturations := 0
  suspendFlag := false
  silenceTimer := none
  acquireTimer := none
  lostTimer := none

/-- One axis of the Axis Bus Controller after a reset (R118). -/
def AxisRec.reset : AxisRec where
  history := []
  state := .ok
  silence := 0
  heard := false
  measured := none
  error := none
  echo := none
  drive := none
  brake := none
  stale := 0

/-- The Axis Bus Controller after a reset (R118). -/
def BusState.reset : BusState where
  seq := 0
  override := .none
  lastDrive := none
  lastBrake := none
  corrupted := 0
  axes := ⟨AxisRec.reset, AxisRec.reset, AxisRec.reset⟩
  frame := none

/-- One axis of the Load Monitor after a reset (R135). -/
def AxisGust.reset : AxisGust where
  warn := 0
  l1 := 0
  l2 := 0
  warnArmed := true
  release := 0
  runaway := 0
  enabled := false

/-- The Load Monitor after power-on reset (R135). -/
def GustState.reset : GustState where
  axes := ⟨AxisGust.reset, AxisGust.reset, AxisGust.reset⟩
  level := .none
  rest := .none
  restTimer := none
  checkTimer := none
  count := 0
  decayTimer := none
  stowHeld := false

/-- The Mode Controller after power-on reset with the strap at the given level (R169, R184). -/
def ModeState.reset (strapHigh : Bool) : ModeState where
  mode := .parked
  mountTime := 0
  timeSet := false
  strapHigh := strapHigh
  enablingTimer := none
  enabled := ⟨false, false, false⟩
  settle := .off
  settleCount := ⟨0, 0, 0⟩
  settleDeadline := none
  motionStart := none
  supervision := .off
  supTimer := none
  toggle := false
  period := Config.defaultPeriod
  lastCounted := none
  consecutive := 0
  failures := 0
  alerts := AlertSet.none

/-- The Table Store after a reset (R153). -/
def TableState.reset : TableState where
  params := []
  grid := []
  mask := []
  paramsStatus := .empty
  gridStatus := .empty
  maskStatus := .empty
  load := none
  lastLoad := none

/-- The Link Interface after a reset (R199): RESET_SEEN alone in the set, every kind enabled, and the notice that
carries RESET_SEEN built, so that the notice-armed flag is disarmed. The notice's payload is the status
summary (PARKED, STOPPED, NONE, event pending, 8 credits) and the event set (R201). -/
def LinkState.reset : LinkState where
  rx := []
  frameFault := false
  badFrames := 0
  overruns := 0
  events := 1
  mask := 0xFFFF
  noticeArmed := false
  outbox := [.notice [0, 0, 0, 1, 8, 0, 1]]
  sent := none
  resetDue := false

/-- The part after power-on reset with the strap at the given level (R185). -/
def State.powerOn (strapHigh : Bool) : State where
  pending := []
  link := LinkState.reset
  seq := SeqState.reset 0
  store := StoreState.reset
  planner := PlannerState.reset
  traj := TrajState.reset 0
  guide := GuideState.reset
  bus := BusState.reset
  gust := GustState.reset
  mode := ModeState.reset strapHigh
  tables := TableState.reset
  draws := 0

/-- The part right after power-on reset, with the strap sampled low (DESIGN CHOICE, log 4: the strap is an input). -/
def State.reset : State := State.powerOn false

end Sys2Proof.Machine
end

