-- ==== Sys2Proof/Machine/Arith.lean ====
section
/-! DEFINITION. The part's arithmetic (R1, R2, R39, R53, R58). Every product and sum is exact. -/

namespace Sys2Proof.Machine

/-- R1, Nearest: the whole number nearest to `n / d`, a half rounded away from zero. -/
def nearest (n : Int) (d : Nat) : Int :=
  if 0 ≤ n then (((2 * n.natAbs + d) / (2 * d) : Nat) : Int)
  else -(((2 * n.natAbs + d) / (2 * d) : Nat) : Int)

/-- R1, Ceiling: the smallest whole number not below `n / d`. -/
def ceilDiv (n d : Nat) : Nat := (n + d - 1) / d

/-- The floor of the square root, one bit at a time from bit `k − 1` down. -/
def isqrtBits : Nat → Nat → Nat → Nat
  | 0, _, acc => acc
  | k + 1, n, acc =>
    if (acc + 2 ^ k) * (acc + 2 ^ k) ≤ n then isqrtBits k n (acc + 2 ^ k) else isqrtBits k n acc

/-- The largest `r` with `r² ≤ n`. -/
def isqrt (n : Nat) : Nat := isqrtBits (n.log2 / 2 + 1) n 0

/-- The smallest `r` with `r² ≥ n`. -/
def ceilSqrt (n : Nat) : Nat :=
  if isqrt n * isqrt n = n then isqrt n else isqrt n + 1

/-- `v` held within `lo … hi`. -/
def clampInt (lo hi v : Int) : Int :=
  if v < lo then lo else if hi < v then hi else v

/-- A counter one higher, held at 65,535 (R100, R118, R187, R201). -/
def bump (n : Nat) : Nat := if n < Config.counterMax then n + 1 else Config.counterMax

/-- A counter `k` higher, held at 65,535 (R201). -/
def bumpBy (n k : Nat) : Nat := if n + k ≤ Config.counterMax then n + k else Config.counterMax

/-- R2: `new` is later than `old`. -/
def seqLater (new old : BitVec 16) : Bool :=
  decide (1 ≤ (new - old).toNat) && decide ((new - old).toNat ≤ 32767)

/-- R53: the first demand time at or after a Mount Time. -/
def demandTimeFrom (t : Nat) : Nat := ceilDiv t Config.demandPeriod * Config.demandPeriod

/-- The demand periods between two demand times (R54, R79). -/
def periodsBetween (t0 t1 : Nat) : Int := ((t1 : Int) - (t0 : Int)) / (Config.demandPeriod : Int)

/-- Mount Time `dt` microseconds later, held at 2^48 − 1 (R179). -/
def timeAfter (now dt : Nat) : Nat := min (now + dt) Config.maxTime

/-- R58: the minimum slew over `dist` mas with the given vmax and amax: T, ta and tc. -/
def slewOver (vmax amax : Nat) (dist : Int) : SlewResult :=
  let d := dist.natAbs
  if d = 0 then ⟨dist, 0, 0, 0⟩
  else if d * amax < vmax * vmax then
    let ta := ceilSqrt (ceilDiv (d * 10 ^ 12) amax)
    ⟨dist, 2 * ta, ta, 0⟩
  else
    let ta := ceilDiv (vmax * 10 ^ 6) amax
    let tc := ceilDiv ((d * amax - vmax * vmax) * 10 ^ 6) (vmax * amax)
    ⟨dist, 2 * ta + tc, ta, tc⟩

/-- R39: the evaluation of one axis's polynomial at `tau` µs after the segment's start. -/
def polyAt (p : Poly) (tau : Int) : Int :=
  p.p0 + nearest (2000000 * p.v * tau + p.a * (tau * tau)) 2000000000000000

/-- R81: the value of a slew profile `u` µs after its t_s, for `u` below T. -/
def profileAt (p : Profile) (u : Nat) : Int :=
  let den : Int := 2 * (p.ta : Int) * ((p.ta : Int) + (p.tc : Int))
  let num : Int :=
    if u ≤ p.ta then (u : Int) * (u : Int)
    else if u ≤ p.ta + p.tc then (p.ta : Int) * (2 * (u : Int) - (p.ta : Int))
    else den - ((p.time : Int) - (u : Int)) * ((p.time : Int) - (u : Int))
  p.ps + nearest (p.dist * num) den.natAbs

/-- R79: the value of a projection line at a demand time. -/
def lineAt (l : ProjLine) (t : Nat) : Int := l.base + l.step * periodsBetween l.baseTime t

/-- R78: the step of a braking axis one period later. -/
def rampStep (step : Int) (dec : Nat) : Int :=
  step - step.sign * ((min step.natAbs dec : Nat) : Int)

end Sys2Proof.Machine
end

