-- ==== Sys2Proof/Machine/Octets.lean ====
section
/-! DEFINITION. Octets on the links: numbers, checks, stuffing and frames (R119, R160, R187, R200, R201, R204). -/

namespace Sys2Proof.Machine

/-! ## Numbers (R200: most significant octet first, two's complement where signed) -/

/-- The unsigned number some octets spell. -/
def beNat (os : List Byte) : Nat := os.foldl (fun acc o => acc * 256 + o.toNat) 0

/-- The unsigned number in `w` octets from offset `off`. -/
def fieldNat (p : List Byte) (off w : Nat) : Nat := beNat ((p.drop off).take w)

/-- A `w`-octet number read as two's complement. -/
def asSigned (w n : Nat) : Int := if n < 2 ^ (8 * w - 1) then (n : Int) else (n : Int) - 2 ^ (8 * w)

/-- The signed number in `w` octets from offset `off`. -/
def fieldInt (p : List Byte) (off w : Nat) : Int := asSigned w (fieldNat p off w)

/-- The low `w` octets of a number, most significant first. -/
def beOctets : Nat → Nat → List Byte
  | 0, _ => []
  | w + 1, n => beOctets w (n / 256) ++ [BitVec.ofNat 8 n]

/-- An unsigned number in `w` octets; one that does not fit is sent as a free value (log 6). -/
def encNat (w n : Nat) : List Byte :=
  beOctets w (if n < 256 ^ w then n else Config.unrepresentable w n)

/-- A signed number in `w` octets; one that does not fit is sent as a free value (log 6). -/
def encInt (w : Nat) (v : Int) : List Byte :=
  beOctets w
    (if -(2 ^ (8 * w - 1) : Int) ≤ v ∧ v < 2 ^ (8 * w - 1) then (v % 2 ^ (8 * w)).toNat
     else Config.unrepresentable w v)

/-- A yes/no octet (R200). -/
def encFlag (b : Bool) : List Byte := [if b then 1 else 0]

/-- Marks in one octet, the first in bit 0 (R200). -/
def encMarks (marks : List Bool) : List Byte :=
  [BitVec.ofNat 8 (marks.foldr (fun b acc => acc * 2 + b.toNat) 0)]

/-- An optional number of a status section: a flag octet, then its octets, 0 when it is absent (R203). -/
def encOptNat (w : Nat) : Option Nat → List Byte
  | some n => encFlag true ++ encNat w n
  | none => encFlag false ++ encNat w 0

/-- An optional signed number of a status section (R203). -/
def encOptInt (w : Nat) : Option Int → List Byte
  | some v => encFlag true ++ encInt w v
  | none => encFlag false ++ encNat w 0

/-- An optional number's octets without a flag octet of their own: 0 when it is absent (R200). -/
def encAbsentNat (w : Nat) (o : Option Nat) : List Byte := encNat w (o.getD 0)

/-! ## The 16-bit check (R119, R160, R187) -/

/-- One bit of the CRC-16 with polynomial x^16 + x^15 + x^2 + 1. -/
def crcShift (r : BitVec 16) : BitVec 16 := if r.msb then (r <<< 1) ^^^ 0x8005 else r <<< 1

/-- One octet fed, most significant bit first. -/
def crcOctet (r : BitVec 16) (o : Byte) : BitVec 16 :=
  crcShift (crcShift (crcShift (crcShift (crcShift (crcShift (crcShift (crcShift
    (r ^^^ (o.setWidth 16 <<< 8)))))))))

/-- The check register after some octets. -/
def crc16 (seed : BitVec 16) (os : List Byte) : BitVec 16 := os.foldl crcOctet seed

/-- The two octets of a check value, most significant first. -/
def checkOctets (r : BitVec 16) : List Byte := beOctets 2 r.toNat

/-! ## Stuffing (R200) -/

/-- The octets of a frame sent on a link: 0x7E and 0x7D go as 0x7D and the octet XOR 0x20. -/
def stuff : List Byte → List Byte
  | [] => []
  | o :: rest => if o = 0x7E ∨ o = 0x7D then 0x7D :: (o ^^^ 0x20) :: stuff rest else o :: stuff rest

/-- The octets received before the first delimiter or the first bad stuffing. -/
def unstuffGood : List Byte → List Byte
  | [] => []
  | [o] => if o = 0x7E ∨ o = 0x7D then [] else [o]
  | o :: e :: rest =>
    if o = 0x7E then []
    else if o = 0x7D then
      if e = 0x5E ∨ e = 0x5D then (e ^^^ 0x20) :: unstuffGood rest else []
    else o :: unstuffGood (e :: rest)

/-- All the octets received, none when the stuffing is bad or a delimiter stands among them. -/
def unstuffAll : List Byte → Option (List Byte)
  | [] => some []
  | [o] => if o = 0x7E ∨ o = 0x7D then none else some [o]
  | o :: e :: rest =>
    if o = 0x7E then none
    else if o = 0x7D then
      if e = 0x5E ∨ e = 0x5D then (unstuffAll rest).map ((e ^^^ 0x20) :: ·) else none
    else (unstuffAll (e :: rest)).map (o :: ·)

/-! ## Frames -/

/-- R187, R201: the good frame that some received octets hold, none when the frame is bad. Octets beyond the check
lie outside the frame. -/
def receiveFrame (wire : List Byte) : Option Frame :=
  match unstuffGood wire with
  | len :: kind :: tag :: rest =>
    if Config.maxPayload < len.toNat then none
    else if rest.length < len.toNat + 2 then none
    else if checkOctets (crc16 Config.frameSeed (len :: kind :: tag :: rest.take len.toNat))
        = (rest.drop len.toNat).take 2 then
      some ⟨kind, tag, rest.take len.toNat⟩
    else none
  | _ => none

/-- R201: the octets of a frame of the given kind, tag and payload after its delimiter, as they go on the wire. -/
def wireOf (kind tag : Byte) (payload : List Byte) : List Byte :=
  let body := BitVec.ofNat 8 payload.length :: kind :: tag :: payload
  stuff (body ++ checkOctets (crc16 Config.frameSeed body))

/-- R201: replies are of kind 128 and event notices of kind 129 with tag 0. -/
def OutFrame.wire : OutFrame → List Byte
  | .reply tag payload => wireOf 128 tag payload
  | .notice payload => wireOf 129 0 payload

/-- Whether a built frame is a reply. -/
def OutFrame.isReply : OutFrame → Bool
  | .reply _ _ => true
  | .notice _ => false

/-- The axis of an axis number (R123). -/
def axisOfOctet (o : Byte) : Option Axis :=
  if o = 0 then some .az else if o = 1 then some .el else if o = 2 then some .rot else none

/-- The drive state of an octet (R204). -/
def driveOfOctet (o : Byte) : Option DriveState :=
  if o = 0 then some .disabled else if o = 1 then some .enabled else if o = 2 then some .fault else none

/-- The brake state of an octet (R204). -/
def brakeOfOctet (o : Byte) : Option BrakeState :=
  if o = 0 then some .released else if o = 1 then some .engaged else none

/-- R123, R204: the report that an arriving Axis Bus frame holds, none when it is corrupted: bad stuffing or a
delimiter inside it, a length other than a report's, a kind other than 2, a failed check, or an octet beyond
its set. -/
def receiveReport (wire : List Byte) : Option Report :=
  match unstuffAll wire with
  | some os =>
    if os.length = 12 ∧ os.getD 0 0 = 2
        ∧ checkOctets (crc16 Config.frameSeed (os.take 10)) = os.drop 10 then
      match axisOfOctet (os.getD 1 0), driveOfOctet (os.getD 8 0), brakeOfOctet (os.getD 9 0) with
      | some axis, some drive, some brake =>
        some ⟨axis, BitVec.ofNat 16 (fieldNat os 2 2), fieldInt os 4 4, drive, brake⟩
      | _, _, _ => none
    else none
  | none => none

/-- R204: an encoder report as a drive sends it. -/
def wireOfReport (r : Report) : List Byte :=
  let axis : Byte := match r.axis with | .az => 0 | .el => 1 | .rot => 2
  let body := [2, axis] ++ encNat 2 r.echo.toNat ++ encInt 4 r.measured ++ encNat 1 r.drive.code
    ++ encNat 1 r.brake.code
  stuff (body ++ checkOctets (crc16 Config.frameSeed body))

/-- R204: a velocity on the bus, the nearest value that 4 signed octets hold. -/
def busVelocity (v : Int) : Int := clampInt (-2147483648) 2147483647 v

/-- R204: a demand frame's octets after its delimiter, as they go on the wire. -/
def DemandFrame.wire (f : DemandFrame) : List Byte :=
  let cmd := encMarks [f.drive = .enable, f.brake = .release]
  let body := [1] ++ encNat 2 f.seq.toNat ++ encNat 6 f.time ++ cmd
    ++ encInt 4 f.pos.az ++ encInt 4 f.vel.az ++ encInt 4 f.pos.el ++ encInt 4 f.vel.el
    ++ encInt 4 f.pos.rot ++ encInt 4 f.vel.rot
  stuff (body ++ checkOctets (crc16 Config.frameSeed body))

end Sys2Proof.Machine
end

