-- ==== Sys2Proof/Machine/Operands.lean ====
section
/-! DEFINITION. The records that requests and replies carry (R201, R202): reading each request's payload and writing
each reply's. -/

namespace Sys2Proof.Machine

/-! ## Enumeration octets on arrival; none beyond the set (R200) -/

/-- R200: NORMAL, URGENT. -/
def priorityOf : Nat → Option Priority
  | 0 => some .normal
  | 1 => some .urgent
  | _ => none

/-- R200: NONE, OPTIONAL, REQUIRED. -/
def guideModeOf : Nat → Option GuideMode
  | 0 => some .none
  | 1 => some .optional
  | 2 => some .required
  | _ => none

/-- R200: NEAREST, HIGH, LOW. -/
def wrapPrefOf : Nat → Option WrapPref
  | 0 => some .nearest
  | 1 => some .high
  | 2 => some .low
  | _ => none

/-- R200: the tables are numbered 0, 1 and 2. -/
def tableOf : Nat → Option TableId
  | 0 => some .params
  | 1 => some .grid
  | 2 => some .mask
  | _ => none

/-- R200: a yes/no octet. -/
def yesNoOf : Nat → Option Bool
  | 0 => some false
  | 1 => some true
  | _ => none

/-- R181, R200: the period choice, in seconds, as a period in µs. -/
def periodOf : Nat → Option Nat
  | 1 => some 1000000
  | 2 => some 2000000
  | 5 => some 5000000
  | 10 => some 10000000
  | _ => none

/-! ## Request payloads -/

/-- R202: the entry record of ENTRY ADD, none where an enumeration, flag or yes/no octet is beyond its set (R200). The
fields the part keeps take the values of R6. -/
def readEntry (p : List Byte) : Option Entry :=
  let flags := fieldNat p 3 1
  match priorityOf (fieldNat p 2 1), yesNoOf (fieldNat p 20 1), yesNoOf (fieldNat p 21 1),
      guideModeOf (fieldNat p 26 1), wrapPrefOf (fieldNat p 27 1) with
  | some priority, some preemptible, some requeue, some guide, some wrap =>
    if flags < 8 then
      some {
        id := fieldNat p 0 2
        priority := priority
        notBefore := if flags.testBit 0 then some (fieldNat p 4 6) else none
        notAfter := if flags.testBit 1 then some (fieldNat p 10 6) else none
        dwell := fieldNat p 16 4
        preemptible := preemptible
        requeue := requeue
        minDwell := if flags.testBit 2 then some (fieldNat p 22 4) else none
        guideMode := guide
        wrapPref := wrap
        requeues := 0
        trackWait := none }
    else none
  | _, _, _, _, _ => none

/-- One axis's coefficients in a segment record (R202). -/
def readPoly (p : List Byte) (off : Nat) : Poly :=
  ⟨fieldInt p off 4, fieldInt p (off + 4) 4, fieldInt p (off + 8) 4⟩

/-- R202: the segment record of SEGMENT PUT. -/
def readSegment (p : List Byte) : Segment where
  target := fieldNat p 0 2
  number := fieldNat p 2 2
  start := fieldNat p 4 6
  dur := fieldNat p 10 4
  poly := ⟨readPoly p 14, readPoly p 26, readPoly p 38⟩

/-- R201: octets of one record of a table. -/
def recordSize : TableId → Nat
  | .params => 62
  | .grid => 12
  | .mask => 4

/-- R153: records of a table. -/
def tableSize : TableId → Nat
  | .params => 3
  | .grid => 240
  | .mask => 72

/-- R202: an Axis Parameter record. -/
def readParams (p : List Byte) : AxisParams where
  lower := fieldInt p 0 4
  upper := fieldInt p 4 4
  vmax := fieldInt p 8 4
  amax := fieldInt p 12 4
  trackRate := fieldInt p 16 4
  settleTol := fieldNat p 20 4
  settleTimeout := fieldNat p 24 4
  warn := fieldNat p 28 4
  l1 := fieldNat p 32 4
  l2 := fieldNat p 36 4
  runaway := fieldNat p 40 4
  park := fieldInt p 44 4
  stow := fieldInt p 48 4
  gain := fieldNat p 52 2
  stepMax := fieldInt p 54 4
  totalMax := fieldInt p 58 4

/-- R202: a grid node record. -/
def readNode (p : List Byte) : GridNode := ⟨fieldInt p 0 4, fieldInt p 4 4, fieldInt p 8 4⟩

/-- R202: a mask sector record. -/
def readSector (p : List Byte) : Int := fieldInt p 0 4

/-- The first `n` records of `size` octets in a payload. -/
def splitRecords : Nat → Nat → List Byte → List (List Byte)
  | 0, _, _ => []
  | n + 1, size, p => p.take size :: splitRecords n size (p.drop size)

/-! ## Reply records -/

/-- R202: an Axis Parameter record as it is stored. -/
def writeParams (r : AxisParams) : List Byte :=
  encInt 4 r.lower ++ encInt 4 r.upper ++ encInt 4 r.vmax ++ encInt 4 r.amax ++ encInt 4 r.trackRate
    ++ encNat 4 r.settleTol ++ encNat 4 r.settleTimeout ++ encNat 4 r.warn ++ encNat 4 r.l1 ++ encNat 4 r.l2
    ++ encNat 4 r.runaway ++ encInt 4 r.park ++ encInt 4 r.stow ++ encNat 2 r.gain ++ encInt 4 r.stepMax
    ++ encInt 4 r.totalMax

/-- R202: a grid node record as it is stored. -/
def writeNode (n : GridNode) : List Byte := encInt 4 n.az ++ encInt 4 n.el ++ encInt 4 n.rot

/-- R202: a mask sector record as it is stored. -/
def writeSector (v : Int) : List Byte := encInt 4 v

/-- R202: an outcome record. A peak, which is a magnitude, goes as an unsigned number (DEDUCED, log 38). -/
def writeOutcome (r : OutcomeRec) : List Byte :=
  let w := r.wraps.getD WrapTurns.zero
  encNat 2 r.target ++ encNat 1 r.outcome.code
    ++ encMarks [r.requeued, r.slewStart.isSome, r.trackStart.isSome, r.wraps.isSome,
        r.peak.az.isSome, r.peak.el.isSome, r.peak.rot.isSome]
    ++ encNat 6 r.activation ++ encNat 6 r.endTime ++ encNat 4 r.tracked
    ++ encAbsentNat 6 r.slewStart ++ encAbsentNat 6 r.trackStart
    ++ encInt 1 w.az ++ encInt 1 w.rot ++ encNat 2 r.corrections ++ encNat 2 r.saturations
    ++ encAbsentNat 4 r.peak.az ++ encAbsentNat 4 r.peak.el ++ encAbsentNat 4 r.peak.rot

end Sys2Proof.Machine
end

