-- ==== Sys2Proof/Machine/Flags.lean ====
section
/-! DEFINITION. The marks of the part: the event set and its notices (R193, R196), the hold-reason set (R10), the alert
cause set (R183) and the status summary of every reply (R192). -/

namespace Sys2Proof.Machine

/-! ## Hold reasons (R10) -/

/-- Whether a reason is in the set. -/
def HoldSet.has (h : HoldSet) : HoldReason → Bool
  | .operator => h.operator
  | .outcomeFull => h.outcomeFull
  | .link => h.link
  | .gustL1 => h.gustL1
  | .gustRest => h.gustRest

/-- The set with a reason's mark replaced. -/
def HoldSet.put (h : HoldSet) (r : HoldReason) (b : Bool) : HoldSet :=
  match r with
  | .operator => { h with operator := b }
  | .outcomeFull => { h with outcomeFull := b }
  | .link => { h with link := b }
  | .gustL1 => { h with gustL1 := b }
  | .gustRest => { h with gustRest := b }

/-- Whether the set is empty. -/
def HoldSet.isEmpty (h : HoldSet) : Bool :=
  !(h.operator || h.outcomeFull || h.link || h.gustL1 || h.gustRest)

/-- R203: the set in one octet. -/
def HoldSet.octet (h : HoldSet) : List Byte :=
  encMarks [h.operator, h.outcomeFull, h.link, h.gustL1, h.gustRest]

/-! ## Alert causes and the Mount Alert line (R183) -/

/-- The set with a cause's mark replaced. -/
def AlertSet.put (a : AlertSet) (c : AlertCause) (b : Bool) : AlertSet :=
  match c with
  | .supervision => { a with supervision := b }
  | .gust => { a with gust := b }
  | .axis => { a with axis := b }
  | .stow => { a with stow := b }

/-- Whether some cause is in the set. -/
def AlertSet.any (a : AlertSet) : Bool := a.supervision || a.gust || a.axis || a.stow

/-- R203: the set in one octet. -/
def AlertSet.octet (a : AlertSet) : List Byte := encMarks [a.supervision, a.gust, a.axis, a.stow]

/-- R183: the Mount Alert line is asserted exactly while the alert cause set is non-empty. -/
def alertLine (s : State) : Bool := s.mode.alerts.any

/-- A cause joins the set, or leaves it. -/
def setAlert (c : AlertCause) (b : Bool) (s : State) : State :=
  s.setMode { s.mode with alerts := s.mode.alerts.put c b }

/-! ## Run state and status summary (R9, R192, R201) -/

/-- R9, R29: STOPPED, RUNNING or HELD, as 0, 1 or 2. -/
def runStateCode (s : State) : Nat :=
  if s.seq.running then (if s.seq.holds.isEmpty then 1 else 2) else 0

/-- R188: the free slots of the receive queue. -/
def freeSlots (s : State) : Nat := Config.rxSlots - s.link.rx.length

/-- R192, R201: the five octets of the status summary with the given credit count. -/
def summary (credits : Nat) (s : State) : List Byte :=
  encNat 1 s.mode.mode.code ++ encNat 1 (runStateCode s) ++ encNat 1 s.seq.atr.phase.code
    ++ encMarks [s.link.events != 0, alertLine s, s.link.frameFault] ++ encNat 1 credits

/-! ## Events (R193, R196) -/

/-- The set or mask that names one kind. -/
def EventKind.word (k : EventKind) : BitVec 16 := 1#16 <<< k.bit

/-- R193: whether a mask enables a kind, or a set holds it: the kind's bit is 1 (DEDUCED, log 46). -/
def hasKind (x : BitVec 16) (k : EventKind) : Bool := x.getLsbD k.bit

/-- A set or mask in two octets (R200). -/
def encKinds (x : BitVec 16) : List Byte := encNat 2 x.toNat

/-- R196: a notice with the event set and the status summary as they stand; the notice-armed flag is disarmed. -/
def buildNotice (s : State) : State :=
  s.setLink { s.link with
    noticeArmed := false
    outbox := s.link.outbox ++ [.notice (summary (freeSlots s) s ++ encKinds s.link.events)] }

/-- R193, R196: a unit latches a kind. A disabled kind leaves the set as it stands; an enabled one joins it, and when
it joins an empty set while the flag is armed a notice is built. -/
def latch (k : EventKind) (s : State) : State :=
  if hasKind s.link.mask k then
    let s' := s.setLink { s.link with events := s.link.events ||| k.word }
    if s.link.events = 0 ∧ s.link.noticeArmed then buildNotice s' else s'
  else s

/-- R194, R195, R196: kinds leave the set; a set that becomes empty arms the notice. -/
def removeKinds (gone : BitVec 16) (s : State) : State :=
  let rest := s.link.events &&& ~~~gone
  s.setLink { s.link with
    events := rest
    noticeArmed := if s.link.events ≠ 0 ∧ rest = 0 then true else s.link.noticeArmed }

/-- R190: a discard sets the frame-fault flag and latches FRAME_FAULT. -/
def markFrameFault (s : State) : State :=
  latch .frameFault (s.setLink { s.link with frameFault := true })

end Sys2Proof.Machine
end

