-- ==== Sys2Proof/Machine/Ops.lean ====
section
/-! DEFINITION. Operations shared by the units: the passing of Mount Time, timers, the tables as their readers see them,
and the records of one axis. -/

namespace Sys2Proof.Machine

/-- R179: Mount Time. -/
def State.now (s : State) : Nat := s.mode.mountTime

/-- R179: `dt` microseconds pass; Mount Time holds at 2^48 − 1. -/
def advance (dt : Nat) (s : State) : State :=
  s.setMode { s.mode with mountTime := timeAfter s.mode.mountTime dt }

/-- Whether a timer runs and its expiry time has come. -/
def timerDue (t : Option Nat) (now : Nat) : Bool :=
  match t with
  | some e => decide (e ≤ now)
  | none => false

/-! ## The tables as readers see them: used only when VALID (R153, R166) -/

/-- The Axis Parameter Set when it is VALID. -/
def validParams (s : State) : Option (Tri AxisParams) :=
  if s.tables.paramsStatus = .valid then
    match s.tables.params with
    | [a, e, r] => some ⟨a, e, r⟩
    | _ => none
  else none

/-- The Correction Grid when it is VALID. -/
def validGrid (s : State) : Option (List GridNode) :=
  if s.tables.gridStatus = .valid then some s.tables.grid else none

/-- The Horizon Mask when it is VALID. -/
def validMask (s : State) : Option (List Int) :=
  if s.tables.maskStatus = .valid then some s.tables.mask else none

/-- The Axis Parameter Set as read by a rule that acts only while it is VALID (R165; log 7). -/
def params (s : State) : Tri AxisParams := (validParams s).getD Config.unstatedParams

/-- The largest of the three axes' settle timeouts (R19). -/
def largestTimeout (p : Tri AxisParams) : Nat :=
  max p.az.settleTimeout (max p.el.settleTimeout p.rot.settleTimeout)

/-! ## One axis's record in each unit -/

/-- The Trajectory Unit's record of one axis replaced. -/
def setMotion (i : Axis) (a : AxisMotion) (s : State) : State :=
  s.setTraj { s.traj with axes := s.traj.axes.set i a }

/-- The Axis Bus Controller's record of one axis replaced. -/
def setAxisRec (i : Axis) (a : AxisRec) (s : State) : State :=
  s.setBus { s.bus with axes := s.bus.axes.set i a }

/-- The Load Monitor's record of one axis replaced. -/
def setAxisGust (i : Axis) (a : AxisGust) (s : State) : State :=
  s.setGust { s.gust with axes := s.gust.axes.set i a }

/-- R171, R178: every axis is OK. -/
def axesOk (s : State) : Bool := s.bus.axes.all (fun a => a.state == .ok)

/-- R138: every axis is in HOLD. -/
def allHold (s : State) : Bool := s.traj.axes.all (fun a => a.motion == .hold)

/-! ## Answers of the owners of requests (R191, R192) -/

/-- What the owner of a request answers: the state after it, the result code and the reply payload after the
summary. -/
structure Answer where
  state : State
  code : ResultCode
  payload : List Byte
deriving DecidableEq, Repr

/-- An accepted request with its reply payload. -/
def accept (payload : List Byte) (s : State) : Answer := ⟨s, .ok, payload⟩

/-- A refused request, which changes nothing, without a payload. -/
def refuse (code : ResultCode) (s : State) : Answer := ⟨s, code, []⟩

/-- A request refused with the first code of its checks, and carried out by `act` when there is none. -/
def answer (check : Option ResultCode) (act : State → Answer) (s : State) : Answer :=
  match check with
  | some code => refuse code s
  | none => act s

/-- The code of the first check that fails, in order. -/
def firstFailure : List (Bool × ResultCode) → Option ResultCode
  | [] => none
  | (failed, code) :: rest => if failed then some code else firstFailure rest

end Sys2Proof.Machine
end

