-- ==== Sys2Proof/Machine/Guide.lean ====
section
/-! DEFINITION. The Guide Unit (Guiding): activation, start and end of tracking, the guide step, the timers and the
suspension by gust level 1. -/

namespace Sys2Proof.Machine

/-- R115: a change of the guide state latches GUIDE_CHANGED. -/
def latchGuideChange (before : GuidePhase) (s : State) : State :=
  if s.guide.phase = before then s else latch .guideChanged s

/-- R104, R16 step 3: at an activation the offsets and counters become 0 and the last sequence absent. -/
def guideZero (s : State) : State :=
  s.setGuide { s.guide with azOffset := 0, elOffset := 0, corrections := 0, saturations := 0, lastSeq := none }

/-- R102: tracking begins with a guide mode. GUIDE_CHANGED latches ahead of TRACKING_BEGUN (DESIGN CHOICE, log 45). -/
def guideBegin (m : GuideMode) (s : State) : State :=
  match m with
  | .none => s.setGuide { s.guide with mode := m }
  | .optional => latchGuideChange s.guide.phase (s.setGuide { s.guide with mode := m, phase := .waiting })
  | .required =>
    latchGuideChange s.guide.phase (s.setGuide { s.guide with
      mode := m, phase := .waiting, acquireTimer := some (s.now + Config.guideAcquire) })

/-- R103: no entry is tracking. -/
def guideStop (s : State) : State :=
  latchGuideChange s.guide.phase (s.setGuide { s.guide with
    phase := .off, mode := .none, azOffset := 0, elOffset := 0
    silenceTimer := none, acquireTimer := none, lostTimer := none })

/-- Whether gust level 1 suspends this guide state (R113). -/
def GuidePhase.listening : GuidePhase → Bool
  | .waiting => true
  | .guiding => true
  | .lost => true
  | .off => false
  | .suspended => false

/-- R113: gust level 1 is entered. -/
def guideSuspend (s : State) : State :=
  if s.guide.phase.listening then
    latchGuideChange s.guide.phase (s.setGuide { s.guide with
      suspendFlag := true, phase := .suspended
      silenceTimer := none, acquireTimer := none, lostTimer := none })
  else s.setGuide { s.guide with suspendFlag := true }

/-- R114: gust level 1 is released. -/
def guideUnsuspend (s : State) : State :=
  if s.guide.phase = .suspended then
    latchGuideChange s.guide.phase (s.setGuide { s.guide with
      suspendFlag := false, phase := .waiting
      acquireTimer :=
        if s.guide.mode = .required then some (s.now + Config.guideAcquire) else s.guide.acquireTimer })
  else s.setGuide { s.guide with suspendFlag := false }

/-! ## The guide step (R106, R107) -/

/-- What one accepted correction does to one axis (R106, R107): the new offset, the applied step and which clamps
bit. -/
structure GuideMove where
  offset : Int
  applied : Int
  stepBit : Bool
  totalBit : Bool
deriving DecidableEq, Repr

/-- R106, R107: the guide step of one axis for a measured error. -/
def guideMove (p : AxisParams) (offset delta : Int) : GuideMove :=
  let scaled := nearest ((p.gain : Int) * delta) 1000
  let bounded := clampInt (-p.stepMax) p.stepMax scaled
  let new := clampInt (-p.totalMax) p.totalMax (offset + bounded)
  { offset := new
    applied := new - offset
    stepBit := decide (p.stepMax < (scaled.natAbs : Int))
    totalBit := decide (p.totalMax < ((offset + bounded).natAbs : Int)) }

/-- Whether any clamp of either axis bit (R107). -/
def saturated (az el : GuideMove) : Bool := az.stepBit || az.totalBit || el.stepBit || el.totalBit

/-- R108 steps 1 to 5: the unit after an accepted correction. -/
def acceptCorrection (seq : BitVec 16) (az el : GuideMove) (s : State) : State :=
  latchGuideChange s.guide.phase (s.setGuide { s.guide with
    azOffset := az.offset
    elOffset := el.offset
    corrections := bump s.guide.corrections
    saturations := if saturated az el then bump s.guide.saturations else s.guide.saturations
    lastSeq := some seq
    phase := .guiding
    silenceTimer := some (s.now + Config.guideSilence)
    acquireTimer := none
    lostTimer := none })

/-- R110: the silence timer, due at `e`, expires. -/
def silenceExpires (e : Nat) (s : State) : State :=
  latchGuideChange s.guide.phase (s.setGuide { s.guide with
    phase := .lost
    silenceTimer := none
    lostTimer := if s.guide.mode = .required then some (e + Config.guideLost) else s.guide.lostTimer })

end Sys2Proof.Machine
end

