-- ==== Sys2Proof/Machine/Motion.lean ====
section
/-! DEFINITION. Changes of motion mode made between expiries (R54, R69, R76, R77, R79). -/

namespace Sys2Proof.Machine

/-- R73: an axis's step, the last demand less the previous one; 0 for an unset axis. -/
def AxisMotion.step (a : AxisMotion) : Int :=
  match a.last, a.prev with
  | some l, some p => l - p
  | _, _ => 0

/-- R77: a brake instruction on one axis. -/
def AxisMotion.braked (a : AxisMotion) : AxisMotion :=
  match a.motion with
  | .hold => { a with line := none, profile := none }
  | _ => { a with motion := .brake, line := none, profile := none }

/-- R69: an axis still in PROJECT enters BRAKE. -/
def AxisMotion.unprojected (a : AxisMotion) : AxisMotion :=
  match a.motion with
  | .project => a.braked
  | _ => a

/-- R54, R79: an axis that meets a plan request. One in HOLD stays there; one in PROJECT keeps its line; any other
enters PROJECT with a line through its last demand. A profile not yet started is discarded. -/
def AxisMotion.projected (lastTime : Nat) (a : AxisMotion) : AxisMotion :=
  match a.motion with
  | .hold => { a with profile := none }
  | .project => { a with profile := none }
  | _ =>
    { a with
      motion := .project
      line := some ⟨a.last.getD Config.unstatedDemand, lastTime, a.step⟩
      profile := none }

/-- R54: the start point of an axis that `projected` has prepared. For AZ and ROT of a STOW plan, which R54 gives none,
it is the last demand (DESIGN CHOICE, log 42). -/
def AxisMotion.startPoint (ts : Nat) (a : AxisMotion) : Int :=
  match a.motion, a.line with
  | .project, some l => lineAt l ts
  | _, _ => a.last.getD Config.unstatedDemand

/-- R76: a measured-position hold on one axis. -/
def AxisMotion.held (measured : Option Int) (a : AxisMotion) : AxisMotion :=
  match measured with
  | some m => { a with motion := .hold, line := none, profile := none, last := some m, prev := some m }
  | none => { a with motion := .hold, line := none, profile := none }

/-- R77: a brake instruction. -/
def brakeAll (s : State) : State := s.setTraj { s.traj with axes := s.traj.axes.map AxisMotion.braked }

/-- R93: the count of consecutive velocity clamps of every axis is 0 at an activation. -/
def clearClampRuns (s : State) : State :=
  s.setTraj { s.traj with axes := s.traj.axes.map (fun a => { a with clampRun := 0 }) }

/-- R69: every axis still in PROJECT enters BRAKE. -/
def brakeProjecting (s : State) : State :=
  s.setTraj { s.traj with axes := s.traj.axes.map AxisMotion.unprojected }

/-- R76: a measured-position hold on every axis. -/
def measuredHold (s : State) : State :=
  s.setTraj { s.traj with
    axes := Tri.of (fun i => (s.traj.axes.get i).held (s.bus.axes.get i).measured) }

/-- R54: the axes at a plan request of a kind: for a STOW, AZ and ROT brake and EL alone is projected. -/
def axesAtRequest (kind : PlanKind) (tr : TrajState) : Tri AxisMotion :=
  match kind with
  | .stow => ⟨tr.axes.az.braked, tr.axes.el.projected tr.lastTime, tr.axes.rot.braked⟩
  | _ => tr.axes.map (AxisMotion.projected tr.lastTime)

end Sys2Proof.Machine
end

