-- ==== Sys2Proof/Machine/Segments.lean ====
section
/-! DEFINITION. The Segment Store (Track Segments): chains, answers for a time, retirement, dropping and the low-track
warning. -/

namespace Sys2Proof.Machine

/-- R30: a segment's end. -/
def Segment.stop (g : Segment) : Nat := g.start + g.dur

/-- R31: the chain of a target, in start order. -/
def chainOf (held : List Segment) (id : Nat) : List Segment := held.filter (fun g => g.target == id)

/-- R15, R40: whether the store holds any segment for a target. -/
def hasSegment (s : State) (id : Nat) : Bool := !(chainOf s.store.held id).isEmpty

/-- R39: a segment's sky axis coordinate of one axis at a Mount Time. -/
def segmentAt (g : Segment) (i : Axis) (t : Nat) : Int := polyAt (g.poly.get i) ((t : Int) - (g.start : Int))

/-- R40: the segment in force in a chain at `t`, the latest start at or before `t`. -/
def inForce (chain : List Segment) (t : Nat) : Option Segment :=
  (chain.filter (fun g => decide (g.start ≤ t))).getLast?

/-- R40, R41: the store's answer for a chain at `t`: the coverage and the segment evaluated, none when uncovered. -/
def answerAt (chain : List Segment) (t : Nat) : Coverage × Option Segment :=
  match inForce chain t with
  | some g =>
    if t < g.stop then (.within, some g)
    else if t < g.stop + Config.coastLimit then (.forward, some g)
    else (.uncovered, none)
  | none =>
    match chain.head? with
    | some g => if g.start ≤ t + Config.coastLimit then (.backward, some g) else (.uncovered, none)
    | none => (.uncovered, none)

/-- R43: the segments left after retirement at demand time `t`: those whose successor in their chain has no start at or
before `t`. -/
def retired (held : List Segment) (t : Nat) : List Segment :=
  held.filter (fun g => !(held.any (fun b =>
    b.target == g.target && decide (g.start < b.start) && decide (b.start ≤ t))))

/-- R43. -/
def retireAt (t : Nat) (s : State) : State :=
  s.setStore { s.store with held := retired s.store.held t }

/-- R44: every segment of a target is removed. -/
def dropChain (id : Nat) (s : State) : State :=
  s.setStore { s.store with held := s.store.held.filter (fun g => g.target != id) }

/-! ## The low-track warning (R46, R47) -/

/-- R46: the margin of a target at `t`, none when its chain is empty. -/
def marginAt (s : State) (id t : Nat) : Option Int :=
  (chainOf s.store.held id).getLast?.map (fun g => (g.stop : Int) - (t : Int))

/-- R46: whether a target's margin at `t` is below the mark; an empty chain's is. -/
def marginLow (s : State) (id t : Nat) : Bool :=
  match marginAt s id t with
  | some m => decide (m < (Config.segmentLowMark : Int))
  | none => true

/-- R46: the comparison made at each demand expiry at which the active phase is TRACKING. -/
def judgeMargin (t : Nat) (s : State) : State :=
  match s.seq.active with
  | some e =>
    if s.seq.atr.phase = .tracking ∧ marginLow s e.id t ∧ s.store.lowArmed then
      latch .segmentLow (s.setStore { s.store with lowArmed := false })
    else s
  | none => s

/-- R46: a segment accepted for the active target that leaves a margin at or above the mark arms the flag. -/
def rearmMargin (id : Nat) (s : State) : State :=
  match s.seq.active with
  | some e =>
    if e.id = id ∧ marginLow s id s.now = false then s.setStore { s.store with lowArmed := true } else s
  | none => s

/-! ## The checks and the placing of a segment (R32 to R37) -/

/-- R32: the contents in range. -/
def segmentInRange (g : Segment) : Bool :=
  decide (50000 ≤ g.dur) && decide (g.dur ≤ 120000000) && decide (g.stop ≤ Config.maxTime)
    && decide (0 ≤ g.poly.az.p0) && decide (g.poly.az.p0 < Config.circle)
    && decide (0 ≤ g.poly.rot.p0) && decide (g.poly.rot.p0 < Config.circle)
    && decide (-18000000 ≤ g.poly.el.p0) && decide (g.poly.el.p0 ≤ Config.zenith)

/-- R32: one axis's rate and acceleration within its limits. -/
def polyWithin (p : AxisParams) (c : Poly) : Bool :=
  decide ((c.v.natAbs : Int) ≤ p.trackRate * 1000) && decide ((c.a.natAbs : Int) ≤ p.amax * 1000)

/-- R32: every axis's rate and acceleration within its limits. -/
def ratesWithin (p : Tri AxisParams) (g : Segment) : Bool :=
  polyWithin p.az g.poly.az && polyWithin p.el g.poly.el && polyWithin p.rot g.poly.rot

/-- R36: the candidate for a circular p0 nearest the reference, p0 itself when two are equally near. -/
def unwrapTo (ref p0 : Int) : Int :=
  let d := (p0 - ref).natAbs
  let lo := (p0 - Config.circle - ref).natAbs
  let hi := (p0 + Config.circle - ref).natAbs
  if lo < d ∧ lo ≤ hi then p0 - Config.circle
  else if hi < d then p0 + Config.circle
  else p0

/-- R36: a segment unwrapped against the last segment of its chain as it stood before the arrival. -/
def unwrapSegment (last : Option Segment) (g : Segment) : Segment :=
  match last with
  | none => g
  | some l =>
    { g with poly := {
        az := { g.poly.az with p0 := unwrapTo (segmentAt l .az g.start) g.poly.az.p0 }
        el := g.poly.el
        rot := { g.poly.rot with p0 := unwrapTo (segmentAt l .rot g.start) g.poly.rot.p0 } } }

/-- R34: the chain with its last segment replaced or truncated for a new start. -/
def makeRoom (chain : List Segment) (start : Nat) : List Segment :=
  match chain.getLast? with
  | none => chain
  | some l =>
    if start = l.start then chain.dropLast
    else if start < l.stop then chain.dropLast ++ [{ l with dur := start - l.start }]
    else chain

/-- R34, R36, R37: the store with an accepted segment. -/
def placeSegment (g : Segment) (s : State) : State :=
  let chain := chainOf s.store.held g.target
  let others := s.store.held.filter (fun x => x.target != g.target)
  s.setStore { s.store with
    held := others ++ (makeRoom chain g.start ++ [unwrapSegment chain.getLast? g]) }

/-- R38: the store free count. -/
def storeFree (s : State) : Nat := Config.storeSegments - s.store.held.length

/-- R38: the chain free count. -/
def chainFree (s : State) (id : Nat) : Nat := Config.chainSegments - (chainOf s.store.held id).length

end Sys2Proof.Machine
end

