-- ==== Sys2Proof/Machine/Planner.lean ====
section
/-! DEFINITION. The Slew Planner (Slew Planning): requests, marks, wrap selection, the intercept iteration and the
horizon check. -/

namespace Sys2Proof.Machine

/-! ## The Correction Grid lookup (R85, R86; used by R56) -/

/-- R86: one component of a node. -/
def nodeAt (nodes : List GridNode) (c r : Nat) (i : Axis) : Int :=
  ((nodes.getD (r * 24 + c) ⟨0, 0, 0⟩ : GridNode)).get i

/-- R85, R86: one component of the correction at a track position, by bilinear interpolation. -/
def gridCorrection (nodes : List GridNode) (trkAz trkEl : Int) (i : Axis) : Int :=
  let A := trkAz % Config.circle
  let E := clampInt 0 Config.zenith trkEl
  let c := (A / Config.gridCol).toNat
  let fa := A - Config.gridCol * c
  let r := min (E / Config.gridRow).toNat 8
  let fe := E - Config.gridRow * r
  let c1 := if c = 23 then 0 else c + 1
  let W := Config.gridCol
  let H := Config.gridRow
  nearest
    ((W - fa) * (H - fe) * nodeAt nodes c r i + fa * (H - fe) * nodeAt nodes c1 r i
      + (W - fa) * fe * nodeAt nodes c (r + 1) i + fa * fe * nodeAt nodes c1 (r + 1) i)
    (W * H).toNat

/-- R56, R86: the correction Δ_i, 0 when the grid is not VALID. -/
def correction (grid : Option (List GridNode)) (trkAz trkEl : Int) (i : Axis) : Int :=
  match grid with
  | some nodes => gridCorrection nodes trkAz trkEl i
  | none => 0

/-- R88: the wrap turn's share of a position, on AZ and ROT alone. -/
def wrapShare (w : WrapTurns) : Axis → Int
  | .az => w.az * Config.circle
  | .el => 0
  | .rot => w.rot * Config.circle

/-- R56: the mount position of an axis at `t` from a chain, without a guide offset; none when uncovered. -/
def mountPosition (grid : Option (List GridNode)) (chain : List Segment) (w : WrapTurns) (i : Axis) (t : Nat) :
    Option Int :=
  (answerAt chain t).2.map (fun g =>
    segmentAt g i t + correction grid (segmentAt g .az t) (segmentAt g .el t) i + wrapShare w i)

/-! ## The horizon mask (R60, R91) -/

/-- R60, R91: the mask sector of an AZ position. -/
def sectorOf (az : Int) : Nat := ((az % Config.circle) / Config.sectorWidth).toNat

/-- R91: a sector's mask value, 0 while the mask is not VALID. -/
def maskValue (mask : Option (List Int)) (az : Int) : Int :=
  match mask with
  | some m => m.getD (sectorOf az) 0
  | none => 0

/-- R60, R91: the lower end of the EL range: the larger of the EL lower limit and the sector's mask value. -/
def elFloor (p : AxisParams) (mask : Option (List Int)) (az : Int) : Int :=
  if p.lower < maskValue mask az then maskValue mask az else p.lower

/-! ## Requests and marks (R52 to R54, R64, R65) -/

/-- R54: whether a plan of a kind plans an axis (R51). -/
def plansAxis (kind : PlanKind) (i : Axis) : Bool := kind != .stow || i == .el

/-- R51, R53, R54: the record of a request, with a start point for each axis, those not planned too (DESIGN CHOICE, log
42). -/
def newPlan (kind : PlanKind) (target : Option Nat) (now : Nat) (axes : Tri AxisMotion) : PlanRec :=
  let ts := demandTimeFrom (now + Config.planLead)
  { kind := kind
    target := target
    request := now
    start := none
    ts := ts
    ps := axes.map (AxisMotion.startPoint ts)
    markHeld := true
    wraps := none
    passes := ⟨0, 0, 0⟩
    work := Tri.of (fun i => if plansAxis kind i then .iterating 0 else .notPlanned)
    stopped := none
    tables := none }

/-- R52, R54: a plan request. In IDLE it becomes the running plan at once; in BUSY it becomes the pending request. -/
def requestPlan (kind : PlanKind) (target : Option Nat) (s : State) : State :=
  let axes := axesAtRequest kind s.traj
  let plan := newPlan kind target s.now axes
  let s' := s.setTraj { s.traj with axes := axes }
  match s.planner.running with
  | none => s'.setPlanner { s.planner with running := some { plan with start := some s.now } }
  | some _ => s'.setPlanner { s.planner with waiting := some plan }

/-- R64, R65: the marks of every plan and request of a kind are withdrawn; a pending one is removed at once, and the
axes in PROJECT brake when no plan is then running (R69). -/
def withdrawMarks (kind : PlanKind) (s : State) : State :=
  let running := s.planner.running.map (fun r => if r.kind = kind then { r with markHeld := false } else r)
  let kept := s.planner.waiting.filter (fun r => r.kind != kind)
  let s' := s.setPlanner { s.planner with running := running, waiting := kept }
  if s.planner.waiting.isSome ∧ kept.isNone ∧ s.planner.running.isNone then brakeProjecting s' else s'

/-! ## Wrap selection (R57) -/

/-- R57: a candidate and its projection within the axis's limits. -/
def wrapAcceptable (p : AxisParams) (cand step : Int) : Bool :=
  decide (p.lower ≤ cand) && decide (cand ≤ p.upper)
    && decide (p.lower ≤ cand + step) && decide (cand + step ≤ p.upper)

/-- R57: among acceptable turns in rising order, the one whose candidate is closest to the start point, the lower when
two are equally close. -/
def nearestTurn (x ps : Int) : List Int → Option Int
  | [] => none
  | k :: rest =>
    match nearestTurn x ps rest with
    | none => some k
    | some m =>
      if (x + m * Config.circle - ps).natAbs < (x + k * Config.circle - ps).natAbs then some m else some k

/-- R57: the wrap turn of one circular axis, none when no candidate is acceptable. `x` is the mount position at t_s
without a turn and `v` the axis's rate in the segment evaluated. -/
def chooseWrap (p : AxisParams) (pref : WrapPref) (dwell : Nat) (x v ps : Int) : Option Int :=
  let step := nearest (v * (dwell : Int)) 1000000000
  let ok := [-1, 0, 1].filter (fun k => wrapAcceptable p (x + k * Config.circle) step)
  match pref with
  | .nearest => nearestTurn x ps ok
  | .high => ok.getLast?
  | .low => ok.head?

/-! ## Passes (R55, R58, R59, R62) -/

/-- R55: the most passes made by any axis. -/
def PlanRec.passCount (r : PlanRec) : Nat := max r.passes.az (max r.passes.el r.passes.rot)

/-- Whether an axis still iterates. -/
def AxisWork.isIterating : AxisWork → Bool
  | .iterating _ => true
  | _ => false

/-- R55: whether no further pass is made. -/
def PlanRec.finished (r : PlanRec) : Bool := r.stopped.isSome || !(r.work.any AxisWork.isIterating)

/-- R55: when the next pass begins, or the plan completes when it is finished. -/
def PlanRec.nextTime (r : PlanRec) : Nat := r.start.getD r.request + Config.passTime * r.passCount

/-- R59: one pass of one axis toward the position `pos`; `k` is the number of this pass. -/
def passAxis (p : AxisParams) (ps : Int) (k : Nat) (before : Nat) (pos : Option Int) : AxisWork :=
  match pos with
  | none => .failed .noTrack
  | some x =>
    let r := slewOver p.vmax.toNat p.amax.toNat (x - ps)
    if ((r.time : Int) - (before : Int)).natAbs ≤ Config.convergence then .converged r
    else if Config.maxPasses ≤ k then .failed .noIntercept
    else .iterating r.time

/-- R62: the constant position a PARK or STOW plan carries an axis to. -/
def fixedTarget (kind : PlanKind) (p : AxisParams) : Int :=
  match kind with
  | .stow => p.stow
  | _ => p.park

/-- R56, R62: the position an axis iterates toward when the slew time before was `before`. -/
def passTarget (r : PlanRec) (tb : PlanTables) (chain : List Segment) (i : Axis) (before : Nat) : Option Int :=
  match r.kind with
  | .target => mountPosition tb.grid chain (r.wraps.getD WrapTurns.zero) i (r.ts + before)
  | k => some (fixedTarget k (tb.params.get i))

/-- R59: the work of one axis after a pass. -/
def stepWork (r : PlanRec) (tb : PlanTables) (chain : List Segment) (i : Axis) : AxisWork :=
  match r.work.get i with
  | .iterating before =>
    passAxis (tb.params.get i) (r.ps.get i) (r.passes.get i + 1) before (passTarget r tb chain i before)
  | w => w

/-- R51: the passes made by one axis after a pass. A pass is counted at its beginning, when its reads are taken (DESIGN
CHOICE, log 19). -/
def stepPasses (r : PlanRec) (i : Axis) : Nat :=
  if (r.work.get i).isIterating then r.passes.get i + 1 else r.passes.get i

/-- R59: a pass of every axis that still iterates. -/
def iteratePlan (tb : PlanTables) (chain : List Segment) (r : PlanRec) : PlanRec :=
  { r with passes := Tri.of (stepPasses r), work := Tri.of (stepWork r tb chain), tables := some tb }

/-- R55, R61: a plan whose work stops in pass 1; the pass is counted for each planned axis. -/
def stopPlan (o : PlanOutcome) (r : PlanRec) : PlanRec :=
  { r with passes := Tri.of (stepPasses r), stopped := some o }

/-- The entry of an id in the Night List, active or queued. -/
def findEntry (s : State) (id : Nat) : Option Entry :=
  match s.seq.active with
  | some e => if e.id = id then some e else s.seq.queue.find? (fun e => e.id == id)
  | none => s.seq.queue.find? (fun e => e.id == id)

/-- R57, R61: pass 1 of a TARGET plan: the coverage at t_s, then the wrap turns, then the first iteration step. -/
def firstTargetPass (tb : PlanTables) (chain : List Segment) (entry : Option Entry) (r : PlanRec) : PlanRec :=
  match (answerAt chain r.ts).2, entry with
  | some g, some e =>
    let at0 := fun i => segmentAt g i r.ts
      + correction tb.grid (segmentAt g .az r.ts) (segmentAt g .el r.ts) i
    match chooseWrap tb.params.az e.wrapPref e.dwell (at0 .az) g.poly.az.v r.ps.az,
        chooseWrap tb.params.rot e.wrapPref e.dwell (at0 .rot) g.poly.rot.v r.ps.rot with
    | some waz, some wrot => iteratePlan tb chain { r with wraps := some ⟨waz, wrot⟩ }
    | _, _ => stopPlan .wrap r
  | _, _ => stopPlan .noTrack r

/-- R55: the next pass of a plan. Pass 1 reads the tables; the later passes use what it read. -/
def passPlan (s : State) (r : PlanRec) : PlanRec :=
  let chain := match r.target with
    | some id => chainOf s.store.held id
    | none => []
  match r.tables with
  | some tb => iteratePlan tb chain r
  | none =>
    let tb : PlanTables := ⟨params s, validGrid s⟩
    match r.kind, r.target with
    | .target, some id => firstTargetPass tb chain (findEntry s id) { r with tables := some tb }
    | _, _ => iteratePlan tb chain r

/-- R55: whether the next pass of a plan begins. -/
def passDue (r : PlanRec) (now : Nat) : Bool := !r.finished && decide (r.nextTime ≤ now)

/-- R55: whether a plan completes. -/
def completionDue (r : PlanRec) (now : Nat) : Bool := r.finished && decide (r.nextTime ≤ now)

/-! ## Completion (R60, R61, R63) -/

/-- R60: the horizon check at the meet time. -/
def horizonCheck (s : State) (r : PlanRec) (elTime : Nat) : PlanOutcome :=
  let t := r.ts + elTime
  let chain := match r.target with
    | some id => chainOf s.store.held id
    | none => []
  let w := r.wraps.getD WrapTurns.zero
  let p := (params s).el
  match mountPosition (validGrid s) chain w .el t, mountPosition (validGrid s) chain w .az t with
  | some el, some az =>
    if elFloor p (validMask s) az ≤ el ∧ el ≤ p.upper then .success else .horizon
  | _, _ => .noTrack

/-- Whether an axis's work failed with an outcome. -/
def AxisWork.failedAs (o : PlanOutcome) (w : AxisWork) : Bool := decide (w = .failed o)

/-- The slew of an axis that converged, none otherwise. -/
def AxisWork.result : AxisWork → Option SlewResult
  | .converged r => some r
  | _ => none

/-- R61, R62: the outcome of a plan at its completion. -/
def planOutcome (s : State) (r : PlanRec) : PlanOutcome :=
  match r.stopped with
  | some o => o
  | none =>
    if r.work.any (AxisWork.failedAs .noTrack) then .noTrack
    else if r.work.any (AxisWork.failedAs .noIntercept) then .noIntercept
    else match r.kind with
      | .target => horizonCheck s r ((r.work.el.result.map SlewResult.time).getD 0)
      | _ => .success

/-- R63: the motion an axis enters when the slew of a plan ends. -/
def PlanKind.follow : PlanKind → FollowOn
  | .target => .track
  | _ => .hold

/-- R63: the profile a plan hands over for an axis, none for one it does not plan. -/
def profileOf (r : PlanRec) (i : Axis) : Option Profile :=
  (r.work.get i).result.map (fun w => ⟨r.ts, r.ps.get i, w.dist, w.ta, w.tc, w.time, r.kind.follow⟩)

/-- R63: the plan end time, t_s plus the largest slew time of the planned axes. -/
def planEnd (r : PlanRec) : Nat :=
  r.ts + (r.work.list.filterMap AxisWork.result).foldl (fun m w => max m w.time) 0

/-- R176: the largest settle timeout among a plan's planned axes. -/
def plannedTimeout (kind : PlanKind) (p : Tri AxisParams) : Nat :=
  match kind with
  | .stow => p.el.settleTimeout
  | _ => largestTimeout p

/-- R63, R80: the profiles of an installed plan, and the wrap turns of a TARGET one. -/
def installProfiles (r : PlanRec) (s : State) : State :=
  s.setTraj { s.traj with
    axes := Tri.of (fun i =>
      match profileOf r i with
      | some p => { s.traj.axes.get i with profile := some p }
      | none => s.traj.axes.get i)
    wraps := match r.kind with
      | .target => r.wraps.getD s.traj.wraps
      | _ => s.traj.wraps }

/-- R67: the requester of an installed plan is told: the Sequencer writes t_s and the wrap turns (R18), and the Mode
Controller sets its motion settle deadline (R176). -/
def tellInstalled (r : PlanRec) (s : State) : State :=
  match r.kind with
  | .target =>
    s.setSeq { s.seq with atr := { s.seq.atr with slewStart := some r.ts, wraps := r.wraps } }
  | k =>
    if s.mode.settle = .awaiting then
      s.setMode { s.mode with
        settleDeadline := some (planEnd r + plannedTimeout k (params s))
        motionStart := some r.ts }
    else s

/-- R67: a plan is installed. -/
def installPlan (r : PlanRec) (s : State) : State :=
  tellInstalled r (installProfiles r
    (s.setPlanner { s.planner with installed := bump s.planner.installed }))

/-- R69: the completed plan leaves the running slot and a pending request becomes the running plan. -/
def startWaiting (s : State) : State :=
  s.setPlanner { s.planner with
    running := s.planner.waiting.map (fun r => { r with start := some s.now })
    waiting := none }

/-- R68: a plan is discarded and counted. -/
def discardPlan (s : State) : State :=
  s.setPlanner { s.planner with discarded := bump s.planner.discarded }

end Sys2Proof.Machine
end

