-- ==== Sys2Proof/Machine/Sequencer.lean ====
section
/-! DEFINITION. The Sequencer (The Night List and the Sequencer): window, selection, activation, endings, preemption and
hold reasons. -/

namespace Sys2Proof.Machine

/-! ## The list and its window (R3 to R5) -/

/-- R8: the entries of the Night List, the ACTIVE one first, then the queued order. -/
def listEntries (s : State) : List Entry := s.seq.active.toList ++ s.seq.queue

/-- Whether an entry with this id is in the list. -/
def inList (s : State) (id : Nat) : Bool := (listEntries s).any (fun e => e.id == id)

/-- R5: the ids of the lookahead window. -/
def windowIds (s : State) : List Nat :=
  (s.seq.active.toList ++ s.seq.queue.take Config.windowQueued).map Entry.id

/-- R5: the head of the queued order. -/
def headId (s : State) : Option Nat := s.seq.queue.head?.map Entry.id

/-- R4: an entry placed directly behind the last QUEUED URGENT entry. -/
def placeBehindUrgent (e : Entry) (q : List Entry) : List Entry :=
  q.takeWhile (fun x => x.priority == .urgent) ++ e :: q.dropWhile (fun x => x.priority == .urgent)

/-- R4: an added entry placed by its priority. -/
def placeAdded (e : Entry) (q : List Entry) : List Entry :=
  match e.priority with
  | .urgent => placeBehindUrgent e q
  | .normal => q ++ [e]

/-- R5: one entry of the window before the event: when it is in the window no longer, its segments are dropped, and
SEGMENTS_DROPPED latches if it is still in the list. -/
def compareOne (id : Nat) (s : State) : State :=
  if (windowIds s).contains id then s
  else if inList s id then latch .segmentsDropped (dropChain id s)
  else dropChain id s

/-- R5: the window before an event compared with the window after it. -/
def compareWindow : List Nat → State → State
  | [], s => s
  | id :: rest, s => compareWindow rest (compareOne id s)

/-- LIST_EMPTY latches if the list is now empty (R7, R13, R15, R23). -/
def latchIfEmpty (s : State) : State := if (listEntries s).isEmpty then latch .listEmpty s else s

/-! ## Wait timers (R9, R11, R14) -/

/-- The not-before, deadline and track-wait timers are stopped, as selection begins again (R11). -/
def stopWaits (s : State) : State :=
  s.setSeq { s.seq with notBeforeTimer := none, deadlineTimer := none, trackWaitTimer := none }

/-- R14: the not-before timer that serves preemption, run while an entry is ACTIVE, the run state is RUNNING and the
head is URGENT with a not-before in the future. -/
def preemptTimer (s : State) : Option Nat :=
  match s.seq.queue with
  | h :: _ =>
    if s.seq.running ∧ h.priority = .urgent then h.notBefore.filter (fun t => decide (s.now < t)) else none
  | [] => none

/-- R14: that timer set as the list now stands, while an entry is ACTIVE. -/
def refreshPreemptTimer (s : State) : State :=
  if s.seq.active.isSome then s.setSeq { s.seq with notBeforeTimer := preemptTimer s } else s

/-- R11, R14: the not-before and deadline timers follow the head of the list. While the head stays, its timers run on, a
due one to its expiry; when the head has changed they are stopped, and while an entry is ACTIVE the not-before timer is
that of the new head. -/
def followHead (before : Option Nat) (s : State) : State :=
  if headId s = before then s
  else refreshPreemptTimer (s.setSeq { s.seq with notBeforeTimer := none, deadlineTimer := none })

/-! ## Selection (R11 to R16) -/

/-- R25: the outcome record of a skip. -/
def skipRecord (o : Ending) (id now : Nat) : OutcomeRec where
  target := id
  outcome := o
  requeued := false
  activation := now
  endTime := now
  tracked := 0
  slewStart := none
  trackStart := none
  wraps := none
  corrections := 0
  saturations := 0
  peak := ⟨none, none, none⟩

/-- R13, R15: the head is skipped. -/
def skipHead (o : Ending) (e : Entry) (rest : List Entry) (s : State) : State :=
  latchIfEmpty (latch .targetEnded (dropChain e.id
    (s.setSeq { s.seq with queue := rest, outcomes := s.seq.outcomes ++ [skipRecord o e.id s.now] })))

/-- R17: the active-target record at an activation. -/
def ActiveRec.activated (id now : Nat) : ActiveRec :=
  { ActiveRec.reset now with target := id, phase := .planning }

/-- R16: the head is activated: its record, the low-track flag (R46), the guide offsets, the counts of consecutive
velocity clamps (R93), the plan request and the event. The window comparison of step 6 moves no entry out of the
window. -/
def activate (e : Entry) (rest : List Entry) (s : State) : State :=
  let s1 := s.setSeq { s.seq with
    active := some e, queue := rest, atr := ActiveRec.activated e.id s.now }
  let s2 := clearClampRuns (guideZero (s1.setStore { s1.store with lowArmed := true }))
  refreshPreemptTimer (latch .targetStarted (requestPlan .target (some e.id) s2))

/-- R15: the head waits for its first segment from `start`. -/
def waitForTrack (e : Entry) (rest : List Entry) (start : Nat) (s : State) : State :=
  s.setSeq { s.seq with
    queue := { e with trackWait := some start } :: rest
    deadlineTimer := e.notAfter
    trackWaitTimer := some (start + Config.trackWait) }

/-- R11: whether selection is taken. -/
def mayselect (s : State) : Bool :=
  s.seq.running && s.seq.holds.isEmpty && s.seq.active.isNone && !s.seq.queue.isEmpty

/-- R12 to R16: the steps over the head, begun again with the next head after a skip; each skip shortens the queued
order, so its length bounds the rounds. A stop on a full Outcome Queue is no wait on the head, so that no deadline
timer runs in it (DESIGN CHOICE, log 35). -/
def selectRounds : Nat → State → State
  | 0, s => s
  | n + 1, s =>
    match s.seq.queue with
    | [] => s
    | e :: rest =>
      if Config.outcomeRecords ≤ s.seq.outcomes.length then
        s.setSeq { s.seq with holds := s.seq.holds.put .outcomeFull true }
      else if timerDue e.notAfter s.now then selectRounds n (skipHead .expired e rest s)
      else if e.notBefore.any (fun t => decide (s.now < t)) then
        s.setSeq { s.seq with notBeforeTimer := e.notBefore, deadlineTimer := e.notAfter }
      else if hasSegment s e.id then activate e rest s
      else if e.trackWait.getD s.now + Config.trackWait ≤ s.now then
        selectRounds n (skipHead .noTrack e rest s)
      else waitForTrack e rest (e.trackWait.getD s.now) s

/-- R11: selection, where its conditions hold. -/
def select (s : State) : State :=
  if mayselect s then selectRounds s.seq.queue.length (stopWaits s) else s

/-! ## Endings (R22, R23, R25) -/

/-- R25: the tracked time of an ending at `now`. -/
def trackedAt (a : ActiveRec) (now : Nat) : Nat :=
  match a.trackStart with
  | some t => now - t
  | none => 0

/-- R25: the outcome record of an ending. -/
def endRecord (o : Ending) (requeued : Bool) (a : ActiveRec) (now : Nat) : OutcomeRec where
  target := a.target
  outcome := o
  requeued := requeued
  activation := a.activation
  endTime := now
  tracked := trackedAt a now
  slewStart := a.slewStart
  trackStart := a.trackStart
  wraps := a.wraps
  corrections := a.corrections
  saturations := a.saturations
  peak := a.peak

/-- R24: the requeue rule: the entry as it returns to QUEUED, none when the rule does not apply. -/
def requeuedEntry (e : Entry) (tracked : Nat) : Option Entry :=
  match e.minDwell with
  | some m =>
    if e.requeue ∧ e.requeues < Config.maxRequeues ∧ tracked + m ≤ e.dwell then
      some { e with dwell := e.dwell - tracked, requeues := e.requeues + 1 }
    else none
  | none => none

/-- R23 steps 1 to 3: the record is written, the entry leaves the list or returns to QUEUED, the phase becomes NONE. -/
def closeRecord (o : Ending) (back : Option Entry) (s : State) : State :=
  s.setSeq { s.seq with
    outcomes := s.seq.outcomes ++ [endRecord o back.isSome s.seq.atr s.now]
    active := none
    queue := match back with
      | some e => placeBehindUrgent e s.seq.queue
      | none => s.seq.queue
    atr := { s.seq.atr with phase := .none }
    notBeforeTimer := none
    settleTimer := none }

/-- R23: after the selection of step 8, a brake instruction when no entry is ACTIVE. -/
def brakeIfIdle (s : State) : State := if s.seq.active.isSome then s else brakeAll s

/-- R23 steps 1 to 6 for the active entry, with the entry as it returns to QUEUED (none when it leaves). -/
def closeObservation (o : Ending) (back : Option Entry) (s : State) : State :=
  latchIfEmpty (latch .targetEnded (withdrawMarks .target (guideStop (closeRecord o back s))))

/-- R22, R23: an ending by any cause but preemption; a cause that finds no observation is ignored. -/
def endObservation (o : Ending) (s : State) : State :=
  if s.seq.active.isSome then
    brakeIfIdle (select (compareWindow (windowIds s) (closeObservation o none s)))
  else s

/-- R24: the ending PREEMPTED: the window is compared once, after the selection. -/
def endPreempted (e : Entry) (s : State) : State :=
  brakeIfIdle (compareWindow (windowIds s)
    (select (closeObservation .preempted (requeuedEntry e (trackedAt s.seq.atr s.now)) s)))

/-- R24: preemption is examined, and made when its conditions hold. -/
def examinePreemption (s : State) : State :=
  match s.seq.active, s.seq.queue with
  | some e, h :: _ =>
    if s.seq.running ∧ s.seq.holds.isEmpty ∧ h.priority = .urgent
        ∧ h.notBefore.all (fun t => decide (t ≤ s.now)) ∧ hasSegment s h.id
        ∧ e.priority = .normal ∧ e.preemptible ∧ s.seq.atr.phase ≠ .none then
      endPreempted e s
    else s
  | _, _ => s

/-- R10: selection if there is no active entry, preemption examined if there is one. -/
def selectOrPreempt (s : State) : State :=
  if s.seq.active.isSome then examinePreemption s else select s

/-! ## Hold reasons and the run state (R9, R10) -/

/-- R10: a reason joins the set. -/
def addHold (r : HoldReason) (s : State) : State := s.setSeq { s.seq with holds := s.seq.holds.put r true }

/-- R10: a reason leaves the set, without the consequence of an emptied set. -/
def dropHold (r : HoldReason) (s : State) : State := s.setSeq { s.seq with holds := s.seq.holds.put r false }

/-- R10: a reason leaves the set; when that empties the set and the run state is RUNNING, selection is taken or
preemption examined. -/
def clearHold (r : HoldReason) (s : State) : State :=
  if s.seq.holds.has r then
    let s' := dropHold r s
    if s'.seq.holds.isEmpty ∧ s'.seq.running then selectOrPreempt s' else s'
  else s

/-- R9, R10, R179: the run state becomes STOPPED: OPERATOR leaves the set and the wait timers stop. R9 names the
not-before and the deadline timer; the track-wait timer stops with them (DEDUCED, log 17), since R179 finds no timer of
the Sequencer running in PARKED. -/
def stopRun (s : State) : State := dropHold .operator (stopWaits (s.setSeq { s.seq with running := false }))

/-- R9: RUN sets RUNNING, and selection is taken. -/
def startRun (s : State) : State := select (s.setSeq { s.seq with running := true })

/-! ## The observation's phases (R18 to R21) -/

/-- R20: one settle counter after a report. -/
def countSettle (tol fe n : Nat) : Nat :=
  if fe ≤ tol then (if n < Config.settleCount then n + 1 else Config.settleCount) else 0

/-- Whether every counter stands at 20 (R20). -/
def settledAll (c : Tri Nat) : Bool := c.all (fun n => n == Config.settleCount)

/-- R20: tracking begins. The Guide Unit is told before TRACKING_BEGUN latches, so GUIDE_CHANGED latches first (DESIGN
CHOICE, log 45). -/
def beginTracking (s : State) : State :=
  let s1 := s.setSeq { s.seq with
    atr := { s.seq.atr with phase := .tracking, trackStart := some s.now }
    settleTimer := none }
  let mode := match s.seq.active with
    | some e => e.guideMode
    | none => .none
  latch .trackingBegun (guideBegin mode s1)

/-- R21: the larger of a peak and a new magnitude. -/
def raisePeak (p : Option Nat) (fe : Nat) : Option Nat :=
  match p with
  | none => some fe
  | some q => if q < fe then some fe else some q

/-- R20, R21: a matched report with a following error reaches the Sequencer. -/
def seqReport (i : Axis) (fe : Int) (s : State) : State :=
  match s.seq.atr.phase with
  | .settling =>
    let c := s.seq.atr.settle.set i
      (countSettle ((params s).get i).settleTol fe.natAbs (s.seq.atr.settle.get i))
    let s1 := s.setSeq { s.seq with atr := { s.seq.atr with settle := c } }
    if settledAll c then beginTracking s1 else s1
  | .tracking =>
    s.setSeq { s.seq with atr := { s.seq.atr with
      peak := s.seq.atr.peak.set i (raisePeak (s.seq.atr.peak.get i) fe.natAbs) } }
  | _ => s

/-- R18: at the expiry whose demand time is t_s the phase becomes SLEWING. -/
def startSlewing (t : Nat) (s : State) : State :=
  if s.seq.atr.phase = .planning ∧ s.seq.atr.slewStart = some t then
    s.setSeq { s.seq with atr := { s.seq.atr with phase := .slewing } }
  else s

/-- R19: at the expiry at which the last axis leaves slew motion the phase becomes SETTLING. -/
def startSettling (s : State) : State :=
  if s.seq.atr.phase = .slewing ∧ s.traj.axes.all (fun a => a.motion != .slew) then
    let d := s.now + largestTimeout (params s)
    s.setSeq { s.seq with
      atr := { s.seq.atr with phase := .settling, settle := ⟨0, 0, 0⟩, settleDeadline := some d }
      settleTimer := some d }
  else s

/-- R21: the tracked time at an expiry in TRACKING. -/
def countTracked (t : Nat) (s : State) : State :=
  match s.seq.atr.phase, s.seq.atr.trackStart with
  | .tracking, some t0 => s.setSeq { s.seq with atr := { s.seq.atr with tracked := t - t0 } }
  | _, _ => s

/-- R21: the dwell judged at an expiry. -/
def judgeDwell (t : Nat) (s : State) : State :=
  match s.seq.atr.phase, s.seq.atr.trackStart, s.seq.active with
  | .tracking, some t0, some e => if t0 + e.dwell ≤ t then endObservation .done s else s
  | _, _, _ => s

/-- R37: a segment has been accepted for a target: its entry's track-wait start is cleared, and for the head the
track-wait timer stops, selection is taken and preemption examined. -/
def tellSegment (id : Nat) (s : State) : State :=
  let clear := fun e : Entry => if e.id = id then { e with trackWait := none } else e
  let s1 := s.setSeq { s.seq with active := s.seq.active.map clear, queue := s.seq.queue.map clear }
  if headId s1 = some id then
    selectOrPreempt (s1.setSeq { s1.seq with trackWaitTimer := none })
  else s1

end Sys2Proof.Machine
end

