-- ==== Sys2Proof/Machine/Modes.lean ====
section
/-! DEFINITION. The Mode Controller (Mount Modes, Supervision and the Alert Line), with the ends of a gust level and of
a gust rest that a change of mode brings (R142, R148, R149). -/

namespace Sys2Proof.Machine

/-! ## Ends of gust level 1 and of a gust rest -/

/-- R142: level 1 is released. -/
def releaseLevel (s : State) : State :=
  if s.gust.level = .l1 then
    clearHold .gustL1 (guideUnsuspend (s.setGust { s.gust with
      level := .none, axes := s.gust.axes.map (fun a => { a with release := 0 }) }))
  else s

/-- R149: a gust rest ends without a check. What the emptied hold-reason set brings comes before the GUST cause leaves
(DESIGN CHOICE, log 43). -/
def endRestByMode (s : State) : State :=
  if s.gust.rest = .none then s
  else
    let s1 := s.setGust { s.gust with rest := .none, restTimer := none, checkTimer := none }
    let s2 := s1.setBus { s1.bus with override := .none }
    let s3 := clearHold .gustRest s2
    if s.gust.stowHeld then s3 else setAlert .gust false s3

/-- R147: a gust rest ends. What the emptied hold-reason set brings comes before the GUST cause leaves (DESIGN CHOICE,
log 43). -/
def endRest (s : State) : State :=
  let s1 := s.setGust { s.gust with rest := .none, restTimer := none, checkTimer := none }
  setAlert .gust false (clearHold .gustRest s1)

/-- R146 steps 3 and 4: the check begins, its timer set from `from_`. -/
def startCheck (from_ : Nat) (s : State) : State :=
  s.setGust { s.gust with
    axes := s.gust.axes.map (fun a => { a with enabled := false })
    checkTimer := some (from_ + Config.recheck)
    restTimer := none
    rest := .checking }

/-- The rest override becomes NONE (R122). -/
def overrideOff (s : State) : State := s.setBus { s.bus with override := .none }

/-- R146: the drives are re-enabled: override, measured-position hold, check. -/
def reenable (from_ : Nat) (s : State) : State := startCheck from_ (measuredHold (overrideOff s))

/-- R148: STOP during a gust rest. -/
def restAtStop (s : State) : State :=
  match s.gust.rest with
  | .braking => endRest (overrideOff s)
  | .resting => reenable s.now s
  | _ => s

/-- R148: PARK or STOW, or a supervision stow (R149), during a gust rest. -/
def restAtMotion (s : State) : State :=
  match s.gust.rest with
  | .braking => endRest (overrideOff s)
  | .resting => startCheck s.now (overrideOff s)
  | _ => s

/-! ## Supervision (R180) -/

/-- R180: supervision is turned OFF. -/
def supervisionOff (s : State) : State :=
  s.setMode { s.mode with supervision := .off, supTimer := none, lastCounted := none }

/-- R180: supervision is entered on the change from ENABLING to READY, while the strap value is low. -/
def supervisionEnter (s : State) : State :=
  if s.mode.strapHigh then s
  else s.setMode { s.mode with
    supervision := .initial
    toggle := false
    period := Config.defaultPeriod
    consecutive := 0
    lastCounted := none
    supTimer := some (s.now + Config.supInitial) }

/-! ## The change of mode (R170) -/

/-- R170 step 3: the motion settle is ended. -/
def settleOff (s : State) : State :=
  s.setMode { s.mode with
    settle := .off, settleDeadline := none, settleCount := ⟨0, 0, 0⟩, motionStart := none }

/-- Whether a mode is READY or OBSERVING. -/
def Mode.supervised : Mode → Bool
  | .ready => true
  | .observing => true
  | .parked => false
  | .enabling => false
  | .parking => false
  | .stowing => false
  | .stowed => false
  | .fault => false

/-- R170 steps 2 to 5: what leaving a mode ends. -/
def leaveMode (old new : Mode) (s : State) : State :=
  let s1 := match old with
    | .observing => withdrawMarks .target (stopRun s)
    | .parking => settleOff (withdrawMarks .park s)
    | .stowing => settleOff (withdrawMarks .stow s)
    | .enabling => s.setMode { s.mode with enablingTimer := none }
    | _ => s
  if old.supervised && !new.supervised then supervisionOff s1 else s1

/-- R170 step 6: level 1 and any gust rest end on entry into a disabled mode. -/
def settleGust (new : Mode) (s : State) : State :=
  if new.isEnabled then s else endRestByMode (releaseLevel s)

/-- R170 step 7: the alert causes of the new mode. -/
def modeAlerts (new : Mode) (s : State) : State :=
  match new with
  | .parked => setAlert .stow false (setAlert .supervision false s)
  | .stowing => setAlert .stow true s
  | .stowed => setAlert .stow true s
  | .fault => setAlert .axis true s
  | _ => s

/-- R170: a change of mount mode. -/
def changeMode (new : Mode) (s : State) : State :=
  modeAlerts new (settleGust new (leaveMode s.mode.mode new
    (latch .modeChanged (s.setMode { s.mode with mode := new }))))

/-! ## Enabling, fault and stow -/

/-- R171, R178: every enabled mark is cleared and the enabling timer started. -/
def startEnabling (s : State) : State :=
  s.setMode { s.mode with
    enabled := ⟨false, false, false⟩
    enablingTimer := some (s.now + Config.enablingTimeout) }

/-- R177: the mount enters FAULT from an enabled mode; in another mode the cause changes nothing. -/
def enterFault (s : State) : State :=
  if s.mode.mode.isEnabled then endObservation .fault (changeMode .fault s) else s

/-- R176: the motion settle state becomes AWAITING. -/
def awaitSettle (s : State) : State :=
  s.setMode { s.mode with settle := .awaiting, settleDeadline := none, motionStart := none }

/-- R175: a stow. -/
def beginStow (s : State) : State :=
  restAtMotion (requestPlan .stow none (awaitSettle (endObservation .stopped (changeMode .stowing s))))

/-- R174: a park. -/
def beginPark (s : State) : State :=
  restAtMotion (requestPlan .park none (awaitSettle (endObservation .stopped (changeMode .parking s))))

/-- R172: all three enabled marks are set: the enabling timer is stopped by the change to READY, and supervision is
entered. -/
def makeReady (s : State) : State := supervisionEnter (changeMode .ready s)

/-! ## Supervision failures (R182) -/

/-- R182 steps 1 to 5. -/
def countFailure (s : State) : State :=
  let s1 := s.setMode { s.mode with failures := min (s.mode.failures + 1) Config.supStow }
  let s2 := latch .supervisionFail (setAlert .supervision true (addHold .link s1))
  s2.setMode { s2.mode with
    supervision := .initial
    toggle := false
    consecutive := 0
    lastCounted := none
    supTimer := some (s.now + Config.supInitial) }

/-- R182: a supervision failure. -/
def superviseFail (s : State) : State :=
  let s1 := countFailure s
  if s1.mode.failures = Config.supStow then beginStow s1 else s1

/-- R181 step 3: a counted keepalive. -/
def countKeepalive (toggle : Bool) (period : Nat) (s : State) : State :=
  let s1 := s.setMode { s.mode with
    toggle := toggle
    lastCounted := some s.now
    period := period
    supervision := .periodic
    supTimer := some (s.now + period) }
  let s2 := clearHold .link s1
  let n := min (s2.mode.consecutive + 1) 2
  let s3 := s2.setMode { s2.mode with consecutive := n }
  if n = 2 then setAlert .supervision false (s3.setMode { s3.mode with failures := 0 }) else s3

/-! ## Reports and expiries at the Mode Controller -/

/-- R129 to R131: an axis problem. -/
def axisProblem (s : State) : State :=
  if s.mode.mode.isEnabled then enterFault s
  else if s.mode.mode = .fault then s
  else latch .axisProblem s

/-- R172: a matched report with drive state ENABLED while ENABLING. -/
def markEnabled (i : Axis) (s : State) : State :=
  let marks := s.mode.enabled.set i true
  let s1 := s.setMode { s.mode with enabled := marks }
  if marks.all id then makeReady s1 else s1

/-- R176: whether an axis is planned in the present motion. -/
def motionPlans (m : Mode) (i : Axis) : Bool := m != .stowing || i == .el

/-- R176: whether every planned axis's counter stands at 20. -/
def motionSettled (m : Mode) (c : Tri Nat) : Bool :=
  match m with
  | .stowing => c.el == Config.settleCount
  | _ => settledAll c

/-- R176: the mode a settled motion ends in. -/
def motionEnd (m : Mode) : Mode :=
  match m with
  | .stowing => .stowed
  | _ => .parked

/-- R176: a matched report with a following error counted for a park or stow motion. -/
def countMotion (i : Axis) (fe : Int) (s : State) : State :=
  if s.mode.settle = .counting ∧ motionPlans s.mode.mode i then
    let c := s.mode.settleCount.set i
      (countSettle ((params s).get i).settleTol fe.natAbs (s.mode.settleCount.get i))
    let s1 := s.setMode { s.mode with settleCount := c }
    if motionSettled s.mode.mode c then changeMode (motionEnd s.mode.mode) s1 else s1
  else s

/-- R126 step 2: a matched report at the Mode Controller. `problem` says that it changed the axis state to a problem
(R129). -/
def modeReport (i : Axis) (drive : DriveState) (fe : Option Int) (problem : Bool) (s : State) : State :=
  let s1 := if problem then axisProblem s else s
  let s2 := if s1.mode.mode = .enabling ∧ drive = .enabled then markEnabled i s1 else s1
  match fe with
  | some e => countMotion i e s2
  | none => s2

/-- R176: at the first expiry at or after t_s at which every axis is in HOLD, counting starts. -/
def startCounting (t : Nat) (s : State) : State :=
  if s.mode.settle = .awaiting ∧ s.mode.motionStart.any (fun ts => decide (ts ≤ t)) ∧ allHold s then
    s.setMode { s.mode with settle := .counting, settleCount := ⟨0, 0, 0⟩ }
  else s

end Sys2Proof.Machine
end

