-- ==== Sys2Proof/Machine/Gust.lean ====
section
/-! DEFINITION. The Load Monitor's judgement of reports (Following Error and Gust Protection): runaway, the gust
levels, level-2 events and the check of a gust rest. -/

namespace Sys2Proof.Machine

/-! ## Runaway (R137) -/

/-- R137: whether a report is judged for runaway. -/
def runawayContext (s : State) : Bool :=
  s.mode.mode.isEnabled && s.bus.override != .active && (validParams s).isSome

/-- R137: the runaway counter of one axis after a report. -/
def runawayCount (s : State) (i : Axis) (fe : Int) : Nat :=
  if runawayContext s ∧ ((params s).get i).runaway < fe.natAbs then
    min ((s.gust.axes.get i).runaway + 1) Config.gustDebounce
  else 0

/-- R136, R137: the runaway judgement of a report. -/
def judgeRunaway (i : Axis) (fe : Int) (s : State) : State :=
  let n := runawayCount s i fe
  let s1 := setAxisGust i { s.gust.axes.get i with runaway := n } s
  if n = Config.gustDebounce then
    let s2 := enterFault s1
    s2.setGust { s2.gust with axes := s2.gust.axes.map (fun a => { a with runaway := 0 }) }
  else s1

/-! ## Level 2 (R143 to R145) -/

/-- R145: a gust rest begins. -/
def beginRest (s : State) : State :=
  let s1 := s.setGust { s.gust with restTimer := some (s.now + Config.gustRest) }
  let s2 := brakeAll s1
  let s3 := s2.setBus { s2.bus with override := .armed }
  s3.setGust { s3.gust with rest := .braking }

/-- R144: the gust stow. -/
def gustStow (s : State) : State :=
  clearHold .gustRest (beginStow (s.setGust { s.gust with stowHeld := true }))

/-- R143 steps 1 and 2. -/
def countLevelTwo (s : State) : State :=
  s.setGust { s.gust with
    count := min (s.gust.count + 1) Config.gustStow
    decayTimer := some (s.now + Config.gustDecay)
    axes := s.gust.axes.map (fun a => { a with warn := 0, l1 := 0, l2 := 0 }) }

/-- R143: a level-2 event. -/
def levelTwo (s : State) : State :=
  let s1 := countLevelTwo s
  let s2 := endObservation .gust (addHold .gustRest s1)
  let s3 := latch .gustL2 (setAlert .gust true s2)
  if s3.gust.count = Config.gustStow then gustStow s3 else beginRest s3

/-! ## The levels (R138 to R142) -/

/-- R138: the tracking context or the rest context. -/
def levelContext (s : State) : Bool :=
  (validParams s).isSome &&
    (s.seq.atr.phase == .tracking ||
      (s.mode.mode.supervised && s.seq.atr.phase == .none && allHold s
        && s.bus.override == .none && s.gust.rest == .none))

/-- R139: one threshold counter after a judged report. -/
def countAbove (fe threshold n : Nat) : Nat :=
  if threshold < fe then (if n < Config.gustDebounce then n + 1 else Config.gustDebounce) else 0

/-- R139, R140: the threshold counters and the warn arm of the report's axis. -/
def countLevels (p : AxisParams) (fe : Nat) (a : AxisGust) : AxisGust :=
  { a with
    warn := countAbove fe p.warn a.warn
    l1 := countAbove fe p.l1 a.l1
    l2 := countAbove fe p.l2 a.l2
    warnArmed := if fe ≤ p.warn then true else a.warnArmed }

/-- R140: the gust warning of the report's axis. -/
def judgeWarn (i : Axis) (s : State) : State :=
  let a := s.gust.axes.get i
  if a.warn = Config.gustDebounce ∧ a.warnArmed then
    latch .gustWarn (setAxisGust i { a with warnArmed := false } s)
  else s

/-- R141: level 1 is entered. -/
def enterLevelOne (s : State) : State :=
  let s1 := s.setGust { s.gust with
    level := .l1, axes := s.gust.axes.map (fun a => { a with release := 0 }) }
  latch .gustL1 (guideSuspend (addHold .gustL1 s1))

/-- R141: the level-1 judgement, on the counter of the report's axis, the only one the report can bring to 3. -/
def judgeLevelOne (i : Axis) (s : State) : State :=
  if s.gust.level = .none ∧ (s.gust.axes.get i).l1 = Config.gustDebounce then enterLevelOne s else s

/-- R143: the level-2 judgement, on the counter of the report's axis. -/
def judgeLevelTwo (i : Axis) (s : State) : State :=
  if (s.gust.axes.get i).l2 = Config.gustDebounce then levelTwo s else s

/-- R142: the release counter of the report's axis, and the release of level 1. -/
def judgeRelease (i : Axis) (quiet : Bool) (s : State) : State :=
  if s.gust.level = .l1 then
    let a := s.gust.axes.get i
    let n := if quiet then min (a.release + 1) Config.gustRelease else 0
    let s1 := setAxisGust i { a with release := n } s
    if s1.gust.axes.all (fun x => x.release == Config.gustRelease) then releaseLevel s1 else s1
  else s

/-- R138 to R142: the level judgement of a report. Outside both contexts the axis's threshold counters become 0. -/
def judgeLevels (i : Axis) (fe : Int) (s : State) : State :=
  if levelContext s then
    let p := (params s).get i
    let s1 := setAxisGust i (countLevels p fe.natAbs (s.gust.axes.get i)) s
    judgeRelease i (decide (fe.natAbs ≤ p.l1)) (judgeLevelTwo i (judgeLevelOne i (judgeWarn i s1)))
  else
    setAxisGust i { s.gust.axes.get i with warn := 0, l1 := 0, l2 := 0 } s

/-! ## The check of a gust rest (R146, R147) -/

/-- R146, R147: in CHECKING a report with drive state ENABLED sets its axis's mark, and the third mark ends the rest. -/
def judgeCheck (i : Axis) (drive : DriveState) (s : State) : State :=
  if s.gust.rest = .checking ∧ drive = .enabled then
    let s1 := setAxisGust i { s.gust.axes.get i with enabled := true } s
    if s1.gust.axes.all AxisGust.enabled then endRest s1 else s1
  else s

/-- R126 step 4, R136: a matched report at the Load Monitor. -/
def gustReport (i : Axis) (drive : DriveState) (fe : Option Int) (s : State) : State :=
  match fe with
  | some e => judgeCheck i drive (judgeLevels i e (judgeRunaway i e s))
  | none => judgeCheck i drive s

end Sys2Proof.Machine
end

