-- ==== Sys2Proof/Machine/AxisBus.lean ====
section
/-! DEFINITION. The Axis Bus Controller (The Axis Bus): demand frames, demand histories, silence and encoder reports. -/

namespace Sys2Proof.Machine

/-! ## The demand frame (R119 to R122) -/

/-- R121: the drives are commanded enabled: an enabled mode with no rest override ACTIVE. -/
def drivesOn (s : State) : Bool := s.mode.mode.isEnabled && s.bus.override != .active

/-- R121: the drive command. -/
def driveCmd (s : State) : DriveCmd := if drivesOn s then .enable else .disable

/-- R121: the brake command. -/
def brakeCmd (s : State) : BrakeCmd := if drivesOn s then .release else .engage

/-- R122, R145: an Emit that finds the override ARMED and every axis in HOLD makes it ACTIVE, and the rest phase
RESTING. -/
def overrideAtEmit (s : State) : State :=
  if s.bus.override = .armed ∧ allHold s then
    let s1 := s.setBus { s.bus with override := .active }
    if s1.gust.rest = .braking then s1.setGust { s1.gust with rest := .resting } else s1
  else s

/-- R120: an entry added at the tail, the oldest removed first when the history holds 8. -/
def pushHistory (e : HistEntry) (h : List HistEntry) : List HistEntry :=
  h.drop (h.length + 1 - Config.historyEntries) ++ [e]

/-- R128: the axis's record when a sending closes a demand period. -/
def AxisRec.closePeriod (a : AxisRec) : AxisRec :=
  let n := if a.heard then 0 else min (a.silence + 1) Config.silencePeriods
  { a with
    silence := n
    heard := false
    state := if n = Config.silencePeriods ∧ a.state = .ok then .silent else a.state }

/-- R128: the axis's record when a frame is sent; the first sending after a reset closes no period. -/
def AxisRec.atSending (first : Bool) (a : AxisRec) : AxisRec :=
  if first then { a with heard := false } else a.closePeriod

/-- R129: a change of axis state that is an axis problem. -/
def isProblem (before after : AxisState) : Bool :=
  match before, after with
  | .ok, .silent => true
  | .ok, .driveFault => true
  | .silent, .driveFault => true
  | _, _ => false

/-- R119, R120, R128: one axis at a sending: its history entry, its silence count, and its axis problem reported. -/
def sendAxis (i : Axis) (seq : BitVec 16) (pos : Option Int) (first : Bool) (s : State) : State :=
  let a := s.bus.axes.get i
  let b := { a with history := pushHistory ⟨seq, pos, false⟩ a.history }.atSending first
  let s1 := setAxisRec i b s
  if isProblem a.state b.state then axisProblem s1 else s1

/-- R119: a demand frame is built and sent at demand time `t`. `pos` holds each axis's position, absent for an axis
handed as unset, which is sent as 0 (R95). -/
def sendFrame (t : Nat) (pos : Tri (Option Int)) (vel : Tri Int) (s : State) : State :=
  let seq := s.bus.seq
  let first := s.bus.lastDrive.isNone
  let f : DemandFrame :=
    { seq := seq, time := t, drive := driveCmd s, brake := brakeCmd s
      pos := pos.map (fun p => p.getD 0), vel := vel.map busVelocity }
  let s1 := s.setBus { s.bus with
    seq := seq + 1, lastDrive := some f.drive, lastBrake := some f.brake, frame := some f }
  sendAxis .rot seq pos.rot first (sendAxis .el seq pos.el first (sendAxis .az seq pos.az first s1))

/-! ## Encoder reports (R123 to R126) -/

/-- R124: the unanswered history entry a report matches. -/
def matchEntry (h : List HistEntry) (echo : BitVec 16) : Option HistEntry :=
  h.find? (fun e => e.seq == echo && !e.answered)

/-- R125: that entry's answered mark is set. -/
def answerEntry (echo : BitVec 16) (h : List HistEntry) : List HistEntry :=
  h.map (fun e => if e.seq = echo then { e with answered := true } else e)

/-- R125 step 7: the axis state a drive state gives. -/
def stateOfDrive : DriveState → AxisState
  | .fault => .driveFault
  | .disabled => .ok
  | .enabled => .ok

/-- R125: the axis's record after a matched report answering `entry`. -/
def AxisRec.matched (r : Report) (entry : HistEntry) (a : AxisRec) : AxisRec :=
  { a with
    history := answerEntry r.echo a.history
    measured := some r.measured
    error := entry.pos.map (fun p => p - r.measured)
    echo := some r.echo
    drive := some r.drive
    brake := some r.brake
    heard := true
    silence := 0
    state := stateOfDrive r.drive }

/-- R73, R126 step 1: an unset axis takes the measured position as its last and previous demand. -/
def setUnset (i : Axis) (m : Int) (s : State) : State :=
  let a := s.traj.axes.get i
  match a.last with
  | some _ => s
  | none => setMotion i { a with last := some m, prev := some m } s

/-- R126 step 3: a report with a following error reaches the Sequencer. -/
def seqReportOpt (i : Axis) (fe : Option Int) (s : State) : State :=
  match fe with
  | some e => seqReport i e s
  | none => s

/-- R125, R126: a matched report. -/
def takeMatched (r : Report) (entry : HistEntry) (s : State) : State :=
  let a := s.bus.axes.get r.axis
  let b := a.matched r entry
  let s1 := setUnset r.axis r.measured (setAxisRec r.axis b s)
  gustReport r.axis r.drive b.error
    (seqReportOpt r.axis b.error (modeReport r.axis r.drive b.error (isProblem a.state b.state) s1))

/-- R124: a report that is not corrupted is matched or stale. -/
def takeReport (r : Report) (s : State) : State :=
  let a := s.bus.axes.get r.axis
  match matchEntry a.history r.echo with
  | some entry => takeMatched r entry s
  | none => setAxisRec r.axis { a with stale := bump a.stale } s

/-- R123: a corrupted report is discarded and counted. -/
def countCorrupted (s : State) : State := s.setBus { s.bus with corrupted := bump s.bus.corrupted }

end Sys2Proof.Machine
end

