-- ==== Sys2Proof/Machine/Expiry.lean ====
section
/-! DEFINITION. The demand computation at a demand expiry (The Demand Computation): Evaluate, Correct, Offset, Wrap,
Limit and Emit, and what the other units judge at the expiry. -/

namespace Sys2Proof.Machine

/-! ## Inputs (R74) -/

/-- R74: the inputs of an expiry, taken as they stand at its beginning: the demand time, the store's answer for the
active target, the guide offsets, the wrap turns and the tables. -/
structure Inputs where
  t : Nat
  coverage : Coverage
  segment : Option Segment
  azOffset : Int
  elOffset : Int
  wraps : WrapTurns
  params : Option (Tri AxisParams)
  grid : Option (List GridNode)
  mask : Option (List Int)
deriving DecidableEq, Repr

/-- R74, R83: the store's answer for the active target; uncovered when there is none. -/
def activeAnswer (s : State) (t : Nat) : Coverage × Option Segment :=
  match s.seq.active with
  | some e => answerAt (chainOf s.store.held e.id) t
  | none => (.uncovered, none)

/-- R74: the inputs taken at the beginning of an expiry. -/
def takeInputs (t : Nat) (s : State) : Inputs where
  t := t
  coverage := (activeAnswer s t).1
  segment := (activeAnswer s t).2
  azOffset := s.guide.azOffset
  elOffset := s.guide.elOffset
  wraps := s.traj.wraps
  params := validParams s
  grid := validGrid s
  mask := validMask s

/-! ## Evaluate, Correct, Offset and Wrap (R75 to R88) -/

/-- R78: the brake decrement. -/
def brakeDecrement (p : AxisParams) : Nat := max 1 (p.amax / 40000).toNat

/-- R87: the guide offset of an axis. -/
def offsetOf (inp : Inputs) : Axis → Int
  | .az => inp.azOffset
  | .el => inp.elOffset
  | .rot => 0

/-- R84 to R88: the composed demand of an axis on a segment. -/
def composed (inp : Inputs) (g : Segment) (i : Axis) : Int :=
  segmentAt g i inp.t + correction inp.grid (segmentAt g .az inp.t) (segmentAt g .el inp.t) i
    + offsetOf inp i + wrapShare inp.wraps i

/-- What Evaluate and the stages up to Wrap give for an axis: the motion mode it is evaluated in, its value, the profile
it keeps, whether it is handed as unset, and whether it was evaluated for TRACK or COAST. -/
structure Formed where
  motion : Motion
  value : Int
  profile : Option Profile
  unset : Bool
  tracked : Bool
deriving DecidableEq, Repr

/-- R78: an axis evaluated in BRAKE. -/
def formBrake (inp : Inputs) (i : Axis) (last step : Int) : Formed :=
  let new := rampStep step (brakeDecrement ((inp.params.getD Config.unstatedParams).get i))
  ⟨if new = 0 then .hold else .brake, last + new, none, false, false⟩

/-- R83: an axis that follows the active target: TRACK, COAST, or BRAKE when the answer is uncovered. No profile stays
installed on it (DESIGN CHOICE, log 36). -/
def formTrack (inp : Inputs) (i : Axis) (last step : Int) : Formed :=
  match inp.segment with
  | some g => ⟨if inp.coverage = .within then .track else .coast, composed inp g i, none, false, true⟩
  | none => { formBrake inp i last step with tracked := true }

/-- R82: an axis in the motion that follows its slew. Its profile becomes absent with the departure (DESIGN CHOICE, log
36). -/
def formFollow (inp : Inputs) (i : Axis) (p : Profile) (last step : Int) : Formed :=
  match p.follow with
  | .track => formTrack inp i last step
  | .hold => ⟨.hold, p.ps + p.dist, none, false, false⟩

/-- R81, R82: an axis whose profile has started. -/
def formSlew (inp : Inputs) (i : Axis) (p : Profile) (last step : Int) : Formed :=
  if p.ts + p.time ≤ inp.t then formFollow inp i p last step
  else ⟨.slew, profileAt p (inp.t - p.ts), some p, false, false⟩

/-- R80: whether an axis's installed profile starts at this expiry. -/
def startsNow (inp : Inputs) (a : AxisMotion) : Bool := a.profile.any (fun p => p.ts == inp.t)

/-- R76: an axis that stays in HOLD. -/
def formHold (last : Int) (a : AxisMotion) : Formed := ⟨.hold, last, a.profile, false, false⟩

/-- R79: an axis that stays in PROJECT. -/
def formProject (inp : Inputs) (last : Int) (a : AxisMotion) : Formed :=
  ⟨.project, (a.line.map (fun l => lineAt l inp.t)).getD last, a.profile, false, false⟩

/-- R76 to R84: an axis with a last demand, evaluated in its motion mode. -/
def formSet (inp : Inputs) (i : Axis) (last : Int) (a : AxisMotion) : Formed :=
  match a.motion, a.profile with
  | .hold, some p => if startsNow inp a then formSlew inp i p last a.step else formHold last a
  | .hold, none => formHold last a
  | .project, some p => if startsNow inp a then formSlew inp i p last a.step else formProject inp last a
  | .project, none => formProject inp last a
  | .slew, some p => formSlew inp i p last a.step
  | .slew, none => formBrake inp i last a.step
  | .brake, _ => formBrake inp i last a.step
  | .track, _ => formTrack inp i last a.step
  | .coast, _ => formTrack inp i last a.step

/-- R75, R76: Evaluate and the stages up to Wrap; an unset axis gives 0 and stays as it is. -/
def form (inp : Inputs) (i : Axis) (a : AxisMotion) : Formed :=
  match a.last with
  | some last => formSet inp i last a
  | none => ⟨a.motion, 0, a.profile, true, false⟩

/-- R75: every axis evaluated in its own motion mode. -/
def formAll (inp : Inputs) (axes : Tri AxisMotion) : Tri Formed := Tri.of (fun i => form inp i (axes.get i))

/-! ## Limit (R89 to R93) -/

/-- What the Limit stage gives: the value and which clamps bit. -/
structure Limited where
  value : Int
  velBit : Bool
  posBit : Bool
deriving DecidableEq, Repr

/-- R89: the velocity clamp. -/
def velocityClamp (p : AxisParams) (last v : Int) : Int × Bool :=
  let m := p.vmax / 200
  if v - last < -m then (last - m, true) else if m < v - last then (last + m, true) else (v, false)

/-- R89 to R91: the velocity clamp, then the position clamp to `lo … hi`. -/
def limitWithin (p : AxisParams) (lo hi last v : Int) : Limited :=
  let w := velocityClamp p last v
  ⟨clampInt lo hi w.1, w.2, decide (w.1 < lo) || decide (hi < w.1)⟩

/-- R75, R92: the Limit stage of an axis; an unset axis and every axis while the Axis Parameter Set is not VALID pass
unchanged. `lo` is the lower end of the axis's range. -/
def limit (ps : Option (Tri AxisParams)) (i : Axis) (lo : AxisParams → Int) (last : Option Int) (f : Formed) :
    Limited :=
  match ps, last with
  | some p, some l => limitWithin (p.get i) (lo (p.get i)) (p.get i).upper l f.value
  | _, _ => ⟨f.value, false, false⟩

/-- R75: the Limit stage of every axis; that of AZ is completed before that of EL. -/
def limitAll (inp : Inputs) (axes : Tri AxisMotion) (f : Tri Formed) : Tri Limited :=
  let az := limit inp.params .az AxisParams.lower axes.az.last f.az
  { az := az
    el := limit inp.params .el (fun p => elFloor p inp.mask az.value) axes.el.last f.el
    rot := limit inp.params .rot AxisParams.lower axes.rot.last f.rot }

/-! ## Emit (R93 to R96) -/

/-- R93: the count of consecutive velocity clamps. -/
def clampRunAfter (f : Formed) (l : Limited) (n : Nat) : Nat :=
  if f.motion = .track ∧ l.velBit then min (n + 1) Config.rateClamps else 0

/-- R93, R95: an axis's record after an Emit in an enabled mode. -/
def AxisMotion.emitted (f : Formed) (l : Limited) (a : AxisMotion) : AxisMotion :=
  { a with
    motion := f.motion
    last := if f.unset then a.last else some l.value
    prev := if f.unset then a.prev else a.last
    line := if f.motion = .project then a.line else none
    profile := f.profile
    clampRun := clampRunAfter f l a.clampRun
    velTally := if l.velBit then bump a.velTally else a.velTally
    posTally := if l.posBit then bump a.posTally else a.posTally
    velocity := if f.unset then 0 else busVelocity ((l.value - a.last.getD 0) * 200) }

/-- R96: an axis's record after an Emit in PARKED, STOWED or FAULT. -/
def AxisMotion.disabled (a : AxisMotion) : AxisMotion :=
  { a with
    motion := .hold, prev := a.last, line := none, profile := none, clampRun := 0, velocity := 0 }

/-- R95, R96: the three axes after an Emit that finds the mount mode `m`. -/
def emittedAxes (m : Mode) (f : Tri Formed) (l : Tri Limited) (axes : Tri AxisMotion) : Tri AxisMotion :=
  if m.isEnabled then Tri.of (fun i => (axes.get i).emitted (f.get i) (l.get i))
  else axes.map AxisMotion.disabled

/-- R95, R96: Emit at demand time `t`: the axes' records, the rest override, and the demand frame. -/
def emit (t : Nat) (f : Tri Formed) (l : Tri Limited) (s : State) : State :=
  let axes := emittedAxes s.mode.mode f l s.traj.axes
  sendFrame t (axes.map AxisMotion.last) (axes.map AxisMotion.velocity)
    (overrideAtEmit (s.setTraj { s.traj with axes := axes, lastTime := t }))

/-! ## What the units judge after Emit (R83, R93, R94, R18 to R21) -/

/-- Whether an axis was evaluated in TRACK or COAST. -/
def Formed.following (f : Formed) : Bool := f.motion == .track || f.motion == .coast

/-- R93: whether the position clamp of an axis in TRACK or COAST has bitten. -/
def limitCause (f : Tri Formed) (l : Tri Limited) : Bool :=
  (f.az.following && l.az.posBit) || (f.el.following && l.el.posBit) || (f.rot.following && l.rot.posBit)

/-- R93: whether an axis's consecutive count has reached 20 at this expiry. -/
def rateCause (f : Tri Formed) (l : Tri Limited) (axes : Tri AxisMotion) : Bool :=
  clampRunAfter f.az l.az axes.az.clampRun == Config.rateClamps
    || clampRunAfter f.el l.el axes.el.clampRun == Config.rateClamps
    || clampRunAfter f.rot l.rot axes.rot.clampRun == Config.rateClamps

/-- R94, R96: the cause an expiry reports; none when its Emit found PARKED, STOWED or FAULT. -/
def expiryCause (inp : Inputs) (m : Mode) (f : Tri Formed) (l : Tri Limited) (axes : Tri AxisMotion) :
    Option Ending :=
  if m.isEnabled then
    if f.any Formed.tracked ∧ inp.coverage = .uncovered then some .starved
    else if limitCause f l then some .limit
    else if rateCause f l axes then some .rate
    else none
  else none

/-- R94: the Sequencer takes the reported cause. -/
def takeCause (c : Option Ending) (s : State) : State :=
  match c with
  | some o => endObservation o s
  | none => s

/-- R73: the coverage of the answer is kept when it was evaluated for TRACK or COAST. -/
def keepCoverage (inp : Inputs) (f : Tri Formed) (s : State) : State :=
  if f.any Formed.tracked then s.setTraj { s.traj with coverage := some inp.coverage } else s

/-- R18, R19, R94, R21: the Sequencer at an expiry: the slew's start, the departures, the tracked time, the reported
cause, then the dwell. -/
def sequencerAtExpiry (t : Nat) (c : Option Ending) (s : State) : State :=
  judgeDwell t (takeCause c (countTracked t (startSettling (startSlewing t s))))

/-- R74: whether the expiry of this Mount Time is still to come. -/
def expiryDue (s : State) : Bool :=
  decide (s.now % Config.demandPeriod = 0) && decide (s.traj.nextExpiry ≤ s.now)

/-- R43, R46, R74: the start of an expiry: the next one is set, segments are retired and the low-track margin judged. -/
def beginExpiry (s : State) : State :=
  judgeMargin s.now (retireAt s.now
    (s.setTraj { s.traj with nextExpiry := s.now + Config.demandPeriod }))

/-- R74, R75: an expiry, after its beginning. -/
def runExpiry (s : State) : State :=
  let t := s.now
  let inp := takeInputs t s
  let axes := s.traj.axes
  let f := formAll inp axes
  let l := limitAll inp axes f
  let c := expiryCause inp s.mode.mode f l axes
  startCounting t (sequencerAtExpiry t c (emit t f l (keepCoverage inp f s)))

/-- R74: a demand expiry. -/
def expiry (s : State) : State := runExpiry (beginExpiry s)

end Sys2Proof.Machine
end

