-- ==== Sys2Proof/Machine/BusCommands.lean ====
section
/-! DEFINITION. The Axis Bus arrival and the demand expiry (R74, R123). -/

namespace Sys2Proof.Machine

/-- R123: a frame on the Axis Bus. -/
def takeBusFrame (wire : List Byte) (s : State) : State :=
  match receiveReport wire with
  | some r => takeReport r s
  | none => countCorrupted s

/-- R123: ENCODER_REPORT. -/
def execEncoderReport (dt : Nat) (octets : List Byte) (s : State) : Host.Outcome State Fault Refusal :=
  .next (takeBusFrame octets (advance dt s))

/-- R74: DEMAND_EXPIRY. -/
def execDemandExpiry (dt : Nat) (s : State) : Host.Outcome State Fault Refusal :=
  .next (if expiryDue (advance dt s) then expiry (advance dt s) else advance dt s)

end Sys2Proof.Machine
end

