-- ==== Sys2Proof/Machine/Link.lean ====
section
/-! DEFINITION. The Link Interface (The Mount Link): arriving frames, the receive queue, the taking of requests,
replies and the event set's two requests. -/

namespace Sys2Proof.Machine

/-! ## Arriving frames (R187 to R190) -/

/-- R187: a bad frame is discarded and counted. -/
def discardBad (s : State) : State :=
  markFrameFault (s.setLink { s.link with badFrames := bump s.link.badFrames })

/-- R188, R189: a good frame joins the queue, or is discarded as an overrun when no slot is free. -/
def offerFrame (f : Frame) (s : State) : State :=
  if s.link.rx.length < Config.rxSlots then s.setLink { s.link with rx := s.link.rx ++ [f] }
  else markFrameFault (s.setLink { s.link with overruns := bump s.link.overruns })

/-- R187: a frame on the Mount Link. -/
def takeFrame (wire : List Byte) (s : State) : State :=
  match receiveFrame wire with
  | some f => offerFrame f s
  | none => discardBad s

/-! ## Taking a request and replying (R188, R191, R192) -/

/-- R188: whether the next frame may be taken: no reply waits to be sent, and no accepted RESET waits to act. -/
def mayTake (s : State) : Bool := !(s.link.outbox.any OutFrame.isReply) && !s.link.resetDue

/-- R191: whether a kind is a request kind (R201: 1 to 28). -/
def isRequestKind (k : Nat) : Bool := decide (1 ≤ k) && decide (k ≤ 28)

/-- R188: the queued frame that is taken, when its kind passes a test. -/
def headRequest (kindOk : Nat → Bool) (s : State) : Option Frame :=
  if mayTake s then s.link.rx.head?.filter (fun f => kindOk f.kind.toNat) else none

/-- R192, R201: a reply's payload: the result code, the status summary with the reply's own slot freed (R188), and the
owner's payload. The credit count is fixed as the reply is built, the slots then free and its own (DEDUCED, log 44). -/
def replyPayload (a : Answer) : List Byte :=
  encNat 1 a.code.code ++ summary (freeSlots a.state + 1) a.state ++ a.payload

/-- R190, R192: the reply is built: it stands before the notices built while its request was taken, `built` frames being
built before it, and a frame-fault flag it carries is cleared. -/
def buildReply (tag : Byte) (built : Nat) (a : Answer) : State :=
  a.state.setLink { a.state.link with
    frameFault := false
    outbox := a.state.link.outbox.take built ++ .reply tag (replyPayload a) :: a.state.link.outbox.drop built }

/-- R191: a request of one kind at the head of the queue is taken: its length is checked, its owner answers, and the
reply is built. Nothing happens when no such request may be taken. -/
def serve (kind : Nat) (lengthOk : Nat → Bool) (owner : List Byte → State → Answer) (s : State) : State :=
  match headRequest (fun k => k == kind) s with
  | some f =>
    buildReply f.tag s.link.outbox.length
      (if lengthOk f.payload.length then owner f.payload s else refuse .badLength s)
  | none => s

/-- R191: a queued frame of no request kind is taken and answered UNKNOWN_KIND. -/
def serveUnknown (s : State) : State :=
  match headRequest (fun k => !isRequestKind k) s with
  | some f => buildReply f.tag s.link.outbox.length (refuse .unknownKind s)
  | none => s

/-- R188: the sending of the reply at the head of the outgoing frames completes and its frame's slot is free. -/
def sendReply (s : State) : State :=
  match s.link.outbox with
  | .reply tag payload :: rest =>
    s.setLink { s.link with rx := s.link.rx.drop 1, outbox := rest, sent := some (.reply tag payload) }
  | _ => s

/-- R196: the notice at the head of the outgoing frames is sent; it takes no slot. -/
def sendNotice (s : State) : State :=
  match s.link.outbox with
  | .notice payload :: rest => s.setLink { s.link with outbox := rest, sent := some (.notice payload) }
  | _ => s

/-! ## Requests on the event set (R194, R195) -/

/-- R200: an event set or mask in two octets. -/
def readKinds (p : List Byte) : BitVec 16 := BitVec.ofNat 16 (fieldNat p 0 2)

/-- R195: EVENT READ CLEAR. -/
def answerEventReadClear (p : List Byte) (s : State) : Answer :=
  accept (encKinds s.link.events) (removeKinds (readKinds p) s)

/-- R194: a new event mask. A bit that is 1 enables its kind and one that is 0 disables it (DEDUCED, log 46). -/
def setMask (m : BitVec 16) (s : State) : State := removeKinds (~~~m) (s.setLink { s.link with mask := m })

/-- R194: EVENT MASK SET. -/
def answerEventMaskSet (p : List Byte) (s : State) : Answer :=
  let t := setMask (readKinds p) s
  accept (encKinds t.link.mask ++ encKinds t.link.events) t

/-! ## Reset by request (R185) -/

/-- R185: RESET is refused WRONG_MODE outside PARKED and FAULT, and in FAULT while the gust count is 5. -/
def mayReset (s : State) : Bool :=
  s.mode.mode == .parked || (s.mode.mode == .fault && s.gust.count != Config.gustStow)

/-- R185: an accepted RESET takes effect when its reply has been sent. -/
def markReset (s : State) : State := s.setLink { s.link with resetDue := true }

/-- R185: RESET. -/
def answerReset (s : State) : Answer :=
  answer (firstFailure [(!mayReset s, .wrongMode)]) (fun s => accept [] (markReset s)) s

end Sys2Proof.Machine
end

