-- ==== Sys2Proof/Machine/GuideCommands.lean ====
section
/-! DEFINITION. GUIDE CORRECTION (Guiding). -/

namespace Sys2Proof.Machine

/-- R202: the fields of a GUIDE CORRECTION. -/
structure Correction where
  target : Nat
  seq : BitVec 16
  az : Int
  el : Int
deriving DecidableEq, Repr

/-- R202: the payload of a GUIDE CORRECTION. -/
def readCorrection (p : List Byte) : Correction where
  target := fieldNat p 0 2
  seq := BitVec.ofNat 16 (fieldNat p 2 2)
  az := fieldInt p 4 4
  el := fieldInt p 8 4

/-- R105: whether a measured error lies within ±60,000. -/
def errorInRange (d : Int) : Bool := decide (-60000 ≤ d) && decide (d ≤ 60000)

/-- R105: the six checks of a correction, in order. -/
def correctionFailure (c : Correction) (s : State) : Option ResultCode :=
  firstFailure [
    (c.target == 0 || !errorInRange c.az || !errorInRange c.el, .range),
    (!s.seq.active.any (fun e => e.id == c.target), .stale),
    (s.seq.atr.phase != .tracking, .notTracking),
    (s.guide.mode == .none, .wrongMode),
    (s.guide.phase == .suspended, .busy),
    (s.guide.lastSeq.any (fun old => !seqLater c.seq old), .duplicate)]

/-- R17, R108: the guide counters of the active-target record are set to the Guide Unit's counts. -/
def copyCounters (s : State) : State :=
  s.setSeq { s.seq with atr := { s.seq.atr with
    corrections := s.guide.corrections, saturations := s.guide.saturations } }

/-- R202: the clamp octet. -/
def clampOctet (az el : GuideMove) : List Byte := encMarks [az.stepBit, az.totalBit, el.stepBit, el.totalBit]

/-- R108, R202: the reply payload of an accepted correction. -/
def acceptedReply (az el : GuideMove) (s : State) : List Byte :=
  encNat 1 s.guide.phase.code ++ encInt 4 s.guide.azOffset ++ encInt 4 s.guide.elOffset
    ++ encInt 4 az.applied ++ encInt 4 el.applied ++ clampOctet az el
    ++ encNat 2 s.guide.corrections ++ encNat 2 s.guide.saturations

/-- R108, R202: the reply payload of a refused correction. -/
def refusedReply (s : State) : List Byte :=
  encNat 1 s.guide.phase.code ++ encFlag s.guide.lastSeq.isSome
    ++ encAbsentNat 2 (s.guide.lastSeq.map BitVec.toNat)

/-- R106, R108: an accepted correction. -/
def applyCorrection (c : Correction) (s : State) : Answer :=
  let az := guideMove (params s).az s.guide.azOffset c.az
  let el := guideMove (params s).el s.guide.elOffset c.el
  let s1 := copyCounters (acceptCorrection c.seq az el s)
  accept (acceptedReply az el s1) s1

/-- R105 to R108: GUIDE CORRECTION. -/
def answerGuideCorrection (p : List Byte) (s : State) : Answer :=
  match correctionFailure (readCorrection p) s with
  | some code => ⟨s, code, refusedReply s⟩
  | none => applyCorrection (readCorrection p) s

/-- R105: GUIDE_CORRECTION (kind 18, a payload of 12). -/
def execGuideCorrection (dt : Nat) (s : State) : Host.Outcome State Fault Refusal :=
  .next (serve 18 (fun n => n == 12) answerGuideCorrection (advance dt s))

end Sys2Proof.Machine
end

