-- ==== Sys2Proof/Machine/Status.lean ====
section
/-! DEFINITION. The status record (R198, R203), one section for each unit, and the capability record (R197, R203).
Where the manual states no width or order for an item, the section's docstring names the log entry that chooses it. -/

namespace Sys2Proof.Machine

/-! ## Items of a section (R203) -/

/-- A counter or tally (R203: 2 octets), and any other count of entries, records, segments, frames or slots, which R203
does not name (DESIGN CHOICE, log 12: 2 octets too). -/
def encCount (n : Nat) : List Byte := encNat 2 n

/-- A Mount Time (R200). -/
def encTime (t : Nat) : List Byte := encNat 6 t

/-- A timer: a running flag, then its expiry time (R203). -/
def encTimer (t : Option Nat) : List Byte := encOptNat 6 t

/-- A per-axis item: its AZ, EL and ROT values in turn (R203). -/
def encAxes {α : Type} (f : α → List Byte) (x : Tri α) : List Byte := f x.az ++ f x.el ++ f x.rot

/-- An optional item of `n` octets: a flag octet, then its octets, 0 when it is absent (R203). -/
def encOptItem {α : Type} (n : Nat) (f : α → List Byte) : Option α → List Byte
  | some x => encFlag true ++ f x
  | none => encFlag false ++ List.replicate n 0

/-- The mark of a plan: 0 held, 1 withdrawn (R51, R200). -/
def encMark (held : Bool) : List Byte := encNat 1 (if held then 0 else 1)

/-- A signed span of time in 6 octets; a negative one is not a number R200 encodes (log 6). -/
def encSpan (v : Int) : List Byte :=
  beOctets 6 (if 0 ≤ v then v.toNat else Config.unrepresentable 6 v)

/-! ## Section 0: the Sequencer (R29) -/

/-- R29: the times of the active-target record, in the order of R17. The tracked time, a duration, goes among them
(DESIGN CHOICE, log 39). -/
def encAtrTimes (a : ActiveRec) : List Byte :=
  encTime a.activation ++ encOptNat 6 a.slewStart ++ encOptNat 6 a.trackStart ++ encNat 4 a.tracked
    ++ encOptNat 6 a.settleDeadline

/-- R29. -/
def sectionSequencer (s : State) : List Byte :=
  encNat 2 s.seq.atr.target ++ encCount (listEntries s).length ++ encCount s.seq.outcomes.length
    ++ s.seq.holds.octet ++ encAxes encCount s.seq.atr.settle ++ encAtrTimes s.seq.atr

/-! ## Section 1: the Segment Store (R50) -/

/-- The ids of the targets that have a chain, each once, in the order in which they first stand in a list. -/
def firstIds : List Nat → List Nat
  | [] => []
  | x :: rest => x :: (firstIds rest).filter (fun y => y != x)

/-- R50: the targets with a non-empty chain, in the order of the Night List (DESIGN CHOICE, log 20). -/
def chainIds (s : State) : List Nat :=
  firstIds (((listEntries s).map Entry.id).filter (hasSegment s)
    ++ s.store.held.map Segment.target)

/-- R50: one target's chain. -/
def encChain (s : State) (id : Nat) : List Byte :=
  let chain := chainOf s.store.held id
  encNat 2 id ++ encCount chain.length ++ encTime ((chain.head?.map Segment.start).getD 0)
    ++ encTime ((chain.getLast?.map Segment.stop).getD 0)

/-- R50: the margin of the active target, absent when there is none. -/
def activeMargin (s : State) : Option Int :=
  s.seq.active.map (fun e => (marginAt s e.id s.now).getD Config.emptyMargin)

/-- R50, R47: the fields of R50 in its order, and behind them the mark that R47 shows and R50 does not list (DESIGN
CHOICE, log 34). -/
def sectionStore (s : State) : List Byte :=
  encCount s.store.held.length ++ encCount (storeFree s)
    ++ encNat 1 (chainIds s).length ++ (chainIds s).flatMap (encChain s)
    ++ encOptItem 6 encSpan (activeMargin s) ++ encFlag s.store.lowArmed ++ encNat 4 Config.segmentLowMark

/-! ## Section 2: the Slew Planner (R72) -/

/-- R72: the running plan. -/
def encRunning (r : PlanRec) : List Byte :=
  encNat 1 r.kind.code ++ encOptNat 2 r.target ++ encTime r.request ++ encOptNat 6 r.start ++ encTime r.ts
    ++ encMark r.markHeld ++ encAxes encCount r.passes

/-- R72: the pending request. -/
def encWaiting (r : PlanRec) : List Byte :=
  encNat 1 r.kind.code ++ encOptNat 2 r.target ++ encTime r.ts ++ encMark r.markHeld

/-- R72: IDLE is 0 and BUSY is 1. The running plan's fields stand behind a presence flag of their own, as the pending
request's do, and are sent as 0 while the planner is IDLE (DESIGN CHOICE, log 41). -/
def sectionPlanner (s : State) : List Byte :=
  encNat 1 (if s.planner.running.isSome then 1 else 0)
    ++ encOptItem 30 encRunning s.planner.running ++ encOptItem 11 encWaiting s.planner.waiting
    ++ encCount s.planner.installed ++ encCount s.planner.discarded

/-! ## Section 3: the Trajectory Unit (R99) -/

/-- R99: a projection line. -/
def encLine (l : ProjLine) : List Byte := encInt 4 l.base ++ encTime l.baseTime ++ encInt 4 l.step

/-- R99: an installed profile. -/
def encProfile (p : Profile) : List Byte :=
  encTime p.ts ++ encInt 4 p.ps ++ encInt 4 p.dist ++ encNat 4 p.ta ++ encNat 4 p.tc ++ encNat 4 p.time

/-- R99. -/
def sectionTrajectory (s : State) : List Byte :=
  let axes := s.traj.axes
  encAxes (fun a : AxisMotion => encNat 1 a.motion.code) axes
    ++ encAxes (fun a : AxisMotion => encFlag a.last.isNone) axes
    ++ encAxes (fun a : AxisMotion => encOptInt 4 a.last) axes
    ++ encAxes (fun a : AxisMotion => encOptInt 4 a.prev) axes
    ++ encAxes (fun a : AxisMotion => encInt 4 a.velocity) axes
    ++ encAxes (fun a : AxisMotion => encOptItem 14 encLine a.line) axes
    ++ encAxes (fun a : AxisMotion => encOptItem 26 encProfile a.profile) axes
    ++ encAxes (fun a : AxisMotion => encCount a.clampRun) axes
    ++ encAxes (fun a : AxisMotion => encCount a.velTally) axes
    ++ encAxes (fun a : AxisMotion => encCount a.posTally) axes
    ++ encInt 1 s.traj.wraps.az ++ encInt 1 s.traj.wraps.rot
    ++ encOptNat 1 (s.traj.coverage.map Coverage.code)

/-! ## Section 4: the Guide Unit (R116) -/

/-- R116. -/
def sectionGuide (s : State) : List Byte :=
  encNat 1 s.guide.phase.code ++ encNat 1 s.guide.mode.code ++ encInt 4 s.guide.azOffset
    ++ encInt 4 s.guide.elOffset ++ encOptNat 2 (s.guide.lastSeq.map BitVec.toNat)
    ++ encCount s.guide.corrections ++ encCount s.guide.saturations ++ encFlag s.guide.suspendFlag
    ++ encTimer s.guide.silenceTimer ++ encTimer s.guide.acquireTimer ++ encTimer s.guide.lostTimer

/-! ## Section 5: the Axis Bus Controller (R134) -/

/-- R134. -/
def sectionBus (s : State) : List Byte :=
  let axes := s.bus.axes
  encNat 2 s.bus.seq.toNat ++ encOptNat 1 (s.bus.lastDrive.map DriveCmd.code)
    ++ encOptNat 1 (s.bus.lastBrake.map BrakeCmd.code) ++ encNat 1 s.bus.override.code
    ++ encCount s.bus.corrupted
    ++ encAxes (fun a : AxisRec => encNat 1 a.state.code) axes
    ++ encAxes (fun a : AxisRec => encCount a.silence) axes
    ++ encAxes (fun a : AxisRec => encOptInt 4 a.measured) axes
    ++ encAxes (fun a : AxisRec => encOptInt 4 a.error) axes
    ++ encAxes (fun a : AxisRec => encOptNat 2 (a.echo.map BitVec.toNat)) axes
    ++ encAxes (fun a : AxisRec => encOptNat 1 (a.drive.map DriveState.code)) axes
    ++ encAxes (fun a : AxisRec => encOptNat 1 (a.brake.map BrakeState.code)) axes
    ++ encAxes (fun a : AxisRec => encCount a.stale) axes

/-! ## Section 6: the Load Monitor (R152) -/

/-- R152. The warn arm goes as a yes/no octet, 1 armed and 0 disarmed (DESIGN CHOICE, log 37). -/
def sectionGust (s : State) : List Byte :=
  let axes := s.gust.axes
  encAxes (fun a : AxisGust => encCount a.warn) axes ++ encAxes (fun a : AxisGust => encCount a.l1) axes
    ++ encAxes (fun a : AxisGust => encCount a.l2) axes
    ++ encAxes (fun a : AxisGust => encCount a.release) axes
    ++ encAxes (fun a : AxisGust => encCount a.runaway) axes
    ++ encAxes (fun a : AxisGust => encFlag a.warnArmed) axes
    ++ encAxes (fun a : AxisGust => encFlag a.enabled) axes
    ++ encNat 1 s.gust.level.code ++ encNat 1 s.gust.rest.code
    ++ encTimer s.gust.restTimer ++ encTimer s.gust.checkTimer ++ encTimer s.gust.decayTimer
    ++ encCount s.gust.count ++ encFlag s.gust.stowHeld

/-! ## Section 7: the Mode Controller (R186) -/

/-- R200: P in seconds. -/
def encPeriod (p : Nat) : List Byte := encNat 1 (p / 1000000)

/-- R186. -/
def sectionMode (s : State) : List Byte :=
  encNat 1 s.mode.mode.code ++ encTime s.mode.mountTime ++ encFlag s.mode.timeSet ++ encFlag s.mode.strapHigh
    ++ encTimer s.mode.enablingTimer ++ encAxes encFlag s.mode.enabled
    ++ encNat 1 s.mode.settle.code ++ encAxes encCount s.mode.settleCount ++ encOptNat 6 s.mode.settleDeadline
    ++ encNat 1 s.mode.supervision.code ++ encFlag s.mode.toggle ++ encPeriod s.mode.period
    ++ encOptNat 6 s.mode.lastCounted ++ encCount s.mode.consecutive ++ encCount s.mode.failures
    ++ encTimer s.mode.supTimer ++ s.mode.alerts.octet

/-! ## Section 8: the Table Store (R168) -/

/-- R168: the load record, in the order of R157. Its counts and burst number take 2 octets each (log 12). -/
def encLoad (r : LoadRec) : List Byte :=
  encNat 1 r.table.code ++ encCount r.declared ++ encCount r.stored ++ encCount r.excess ++ encCount r.burst
    ++ encCount r.burstCount ++ encNat 2 r.check.toNat ++ encNat 1 r.firstError.code
    ++ encCount r.firstError.burst

/-- R168: the last load result. -/
def encLastLoad (r : LastLoad) : List Byte :=
  encNat 1 r.table.code ++ encNat 1 r.result.code ++ encNat 2 r.result.detail ++ encCount r.stored
    ++ encCount r.excess

/-- R168. -/
def sectionTables (s : State) : List Byte :=
  encNat 1 s.tables.paramsStatus.code ++ encNat 1 s.tables.gridStatus.code
    ++ encNat 1 s.tables.maskStatus.code ++ encOptItem 16 encLoad s.tables.load
    ++ encOptItem 8 encLastLoad s.tables.lastLoad

/-! ## Section 9: the Link Interface (R198) -/

/-- R198. The frame-fault flag is shown before the clearing that R190 makes for the reply. The credit count here is
that of the free slots as the reply is built, the request's own slot still taken (DEDUCED, log 47). -/
def sectionLink (s : State) : List Byte :=
  encCount s.link.rx.length ++ encCount (freeSlots s) ++ encFlag s.link.frameFault
    ++ encCount s.link.badFrames ++ encCount s.link.overruns ++ encKinds s.link.events
    ++ encKinds s.link.mask ++ encFlag s.link.noticeArmed

/-- R198, R203: the section of a number, none above 9. -/
def statusSection (n : Nat) (s : State) : Option (List Byte) :=
  match n with
  | 0 => some (sectionSequencer s)
  | 1 => some (sectionStore s)
  | 2 => some (sectionPlanner s)
  | 3 => some (sectionTrajectory s)
  | 4 => some (sectionGuide s)
  | 5 => some (sectionBus s)
  | 6 => some (sectionGust s)
  | 7 => some (sectionMode s)
  | 8 => some (sectionTables s)
  | 9 => some (sectionLink s)
  | _ => none

/-- R198: STATUS READ. -/
def answerStatusRead (p : List Byte) (s : State) : Answer :=
  match statusSection (fieldNat p 0 1) s with
  | some octets => accept octets s
  | none => refuse .range s

/-! ## The capability record (R197, R203) -/

/-- R197: the capacities and the load sizes. -/
def capacityConstants : List Nat :=
  [Config.listEntries, Config.outcomeRecords, Config.storeSegments, Config.chainSegments, Config.windowQueued,
    Config.rxSlots, Config.maxPayload, Config.historyEntries,
    tableSize .params, tableSize .grid, 24, 10, tableSize .mask, Config.burstMax, 1, Config.loadDataMax,
    Config.burstSeed.toNat]

/-- R197: the device constants, every time in µs. -/
def deviceConstants : List Nat :=
  [Config.demandPeriod, Config.planLead, Config.maxPasses, Config.passTime, Config.convergence,
    Config.coastLimit, Config.segmentLowMark, Config.trackWait, Config.settleCount,
    Config.guideSilence, Config.guideAcquire, Config.guideLost, Config.silencePeriods, Config.gustDebounce,
    Config.gustRelease, Config.gustRest, Config.gustDecay, Config.gustStow, Config.enablingTimeout,
    Config.supInitial, 1000000, 2000000, 5000000, 10000000, Config.supStow, Config.maxRequeues]

/-- R203: the capability record, 175 octets. -/
def capabilityRecord : List Byte :=
  encNat 2 Config.partCode ++ [Config.revision]
    ++ (capacityConstants ++ deviceConstants).flatMap (encNat 4)

end Sys2Proof.Machine
end

