-- ==== Sys2Proof/Machine/LinkCommands.lean ====
section
/-! DEFINITION. Commands of the Mount Link itself (R187 to R191, R196). -/

namespace Sys2Proof.Machine

/-- R187: MOUNT_LINK_FRAME. -/
def execMountLinkFrame (dt : Nat) (octets : List Byte) (s : State) : Host.Outcome State Fault Refusal :=
  .next (takeFrame octets (advance dt s))

/-- R188: REPLY_SENT. -/
def execReplySent (dt : Nat) (s : State) : Host.Outcome State Fault Refusal :=
  .next (sendReply (advance dt s))

/-- R191: UNKNOWN_KIND. -/
def execUnknownKind (dt : Nat) (s : State) : Host.Outcome State Fault Refusal :=
  .next (serveUnknown (advance dt s))

/-- R196: EVENT_NOTICE. -/
def execEventNotice (dt : Nat) (s : State) : Host.Outcome State Fault Refusal :=
  .next (sendNotice (advance dt s))

end Sys2Proof.Machine
end

