-- ==== Sys2Proof/Machine/ListCommands.lean ====
section
/-! DEFINITION. The Sequencer's requests and SEGMENT PUT (The Night List and the Sequencer; Track Segments). -/

namespace Sys2Proof.Machine

/-! ## ENTRY ADD (R6) -/

/-- R6: whether a minimum dwell fits the requeue field and the dwell. -/
def minDwellOk (e : Entry) : Bool :=
  match e.requeue, e.minDwell with
  | true, some m => decide (1000000 ≤ m) && decide (m ≤ e.dwell)
  | false, none => true
  | _, _ => false

/-- R6: whether a not-after, present with a not-before, is greater than it. -/
def windowTimesOk (e : Entry) : Bool :=
  match e.notBefore, e.notAfter with
  | some b, some a => decide (b < a)
  | _, _ => true

/-- R6: the range check of an entry. -/
def entryInRange (e : Entry) : Bool :=
  e.id != 0 && decide (1000000 ≤ e.dwell) && decide (e.dwell ≤ 3600000000) && windowTimesOk e && minDwellOk e

/-- R4, R5: an entry is placed and the window compared. -/
def placeEntry (e : Entry) (s : State) : State :=
  compareWindow (windowIds s) (s.setSeq { s.seq with queue := placeAdded e s.seq.queue })

/-- R6: preemption is examined if the new entry is the head and is URGENT. -/
def examineNewHead (e : Entry) (s : State) : State :=
  if headId s = some e.id ∧ e.priority = .urgent then examinePreemption s else s

/-- R6: what an accepted ENTRY ADD causes when the run state is RUNNING. -/
def afterAdd (e : Entry) (s : State) : State :=
  if s.seq.running then (if s.seq.active.isSome then examineNewHead e s else select s) else s

/-- R8: the index of an id in the list. -/
def indexOf (id : Nat) : List Entry → Nat
  | [] => 0
  | e :: rest => if e.id = id then 0 else indexOf id rest + 1

/-- R6: an accepted ENTRY ADD. The position in the reply is the one at which the entry was placed. -/
def addEntry (e : Entry) (s : State) : Answer :=
  let s1 := placeEntry e s
  accept (encNat 1 (indexOf e.id (listEntries s1)))
    (afterAdd e (followHead (headId s) s1))

/-- R6: ENTRY ADD. -/
def answerEntryAdd (p : List Byte) (s : State) : Answer :=
  match readEntry p with
  | none => refuse .range s
  | some e =>
    answer (firstFailure [
        (!entryInRange e, .range),
        (inList s e.id, .duplicate),
        (decide (Config.listEntries ≤ (listEntries s).length), .full)])
      (addEntry e) s

/-! ## ENTRY WITHDRAW (R7) -/

/-- R7: a QUEUED entry is removed; its segments are dropped and the window compared. -/
def removeQueued (id : Nat) (s : State) : State :=
  latchIfEmpty (compareWindow (windowIds s)
    (dropChain id (s.setSeq { s.seq with queue := s.seq.queue.filter (fun e => e.id != id) })))

/-- R7, R11, R14: a QUEUED entry is withdrawn; a wait on it ends and selection is taken. -/
def withdrawQueued (id : Nat) (s : State) : State :=
  select (followHead (headId s) (removeQueued id s))

/-- R7: whether an id is that of the ACTIVE entry. -/
def isActive (s : State) (id : Nat) : Bool := s.seq.active.any (fun e => e.id == id)

/-- R7: ENTRY WITHDRAW. -/
def answerEntryWithdraw (p : List Byte) (s : State) : Answer :=
  let id := fieldNat p 0 2
  answer (firstFailure [(!inList s id, .noSuchTarget)])
    (fun s => accept [] (if isActive s id then endObservation .withdrawn s else withdrawQueued id s)) s

/-! ## LIST READ (R8) and OUTCOME FETCH (R27) -/

/-- R202: the triple of an entry. -/
def encTriple (active : Bool) (e : Entry) : List Byte :=
  encNat 2 e.id ++ encNat 1 (if active then 1 else 0) ++ encNat 1 e.priority.code

/-- R8: the triples of the whole list, in index order. -/
def listTriples (s : State) : List (List Byte) :=
  s.seq.active.toList.map (encTriple true) ++ s.seq.queue.map (encTriple false)

/-- R8: the reply payload of LIST READ from a start index. -/
def listPage (start : Nat) (s : State) : List Byte :=
  let page := ((listTriples s).drop start).take 16
  encNat 1 (listEntries s).length ++ encNat 1 page.length ++ page.flatten

/-- R8: LIST READ. -/
def answerListRead (p : List Byte) (s : State) : Answer :=
  answer (firstFailure [(decide (95 < fieldNat p 0 1), .range)])
    (fun s => accept (listPage (fieldNat p 0 1) s) s) s

/-- R27: OUTCOME FETCH. -/
def answerOutcomeFetch (s : State) : Answer :=
  match s.seq.outcomes with
  | [] => accept (encFlag false) s
  | r :: rest =>
    accept (encFlag true ++ writeOutcome r) (clearHold .outcomeFull (s.setSeq { s.seq with outcomes := rest }))

/-! ## SEGMENT PUT (R32 to R38) -/

/-- R34: whether a segment starts before the last segment of its chain. -/
def startsBehind (s : State) (g : Segment) : Bool :=
  (chainOf s.store.held g.target).getLast?.any (fun l => decide (g.start < l.start))

/-- R35: whether a segment would add one to its chain: it does not replace the last segment. -/
def addsOne (s : State) (g : Segment) : Bool :=
  !(chainOf s.store.held g.target).getLast?.any (fun l => g.start == l.start)

/-- R35: whether the store or the chain has no room for a segment. -/
def noRoom (s : State) (g : Segment) : Bool :=
  addsOne s g && (decide (Config.storeSegments ≤ s.store.held.length)
    || decide (Config.chainSegments ≤ (chainOf s.store.held g.target).length))

/-- R32 to R35: the eight checks of a segment, in order. -/
def segmentFailure (g : Segment) (s : State) : Option ResultCode :=
  firstFailure [
    (!segmentInRange g, .range),
    ((validParams s).isNone, .notReady),
    (!ratesWithin (params s) g, .rate),
    (!inList s g.target, .noSuchTarget),
    (!(windowIds s).contains g.target, .notNear),
    (decide (g.stop ≤ s.now), .expired),
    (startsBehind s g, .outOfOrder),
    (noRoom s g, .full)]

/-- R37: an accepted segment: it is placed, the Sequencer is told, and the low-track flag may be armed. -/
def acceptSegment (g : Segment) (s : State) : State :=
  rearmMargin g.target (tellSegment g.target (placeSegment g s))

/-- R38: the reply payload of SEGMENT PUT. -/
def segmentReply (g : Segment) (s : State) : List Byte :=
  encNat 2 g.target ++ encNat 2 g.number ++ encNat 1 (storeFree s) ++ encNat 1 (chainFree s g.target)

/-- R32 to R38: SEGMENT PUT. The counts of an accepted one are taken after the selection or preemption it brings, and
after the segments that those drop (DEDUCED, log 40). -/
def answerSegmentPut (p : List Byte) (s : State) : Answer :=
  let g := readSegment p
  match segmentFailure g s with
  | some code => ⟨s, code, segmentReply g s⟩
  | none => accept (segmentReply g (acceptSegment g s)) (acceptSegment g s)

/-! ## The commands -/

/-- R6: ENTRY_ADD (kind 13, a payload of 28). -/
def execEntryAdd (dt : Nat) (s : State) : Host.Outcome State Fault Refusal :=
  .next (serve 13 (fun n => n == 28) answerEntryAdd (advance dt s))

/-- R7: ENTRY_WITHDRAW (kind 14, a payload of 2). -/
def execEntryWithdraw (dt : Nat) (s : State) : Host.Outcome State Fault Refusal :=
  .next (serve 14 (fun n => n == 2) answerEntryWithdraw (advance dt s))

/-- R8: LIST_READ (kind 15, a payload of 1). -/
def execListRead (dt : Nat) (s : State) : Host.Outcome State Fault Refusal :=
  .next (serve 15 (fun n => n == 1) answerListRead (advance dt s))

/-- R27: OUTCOME_FETCH (kind 16, no payload). -/
def execOutcomeFetch (dt : Nat) (s : State) : Host.Outcome State Fault Refusal :=
  .next (serve 16 (fun n => n == 0) (fun _ s => answerOutcomeFetch s) (advance dt s))

/-- R37: SEGMENT_PUT (kind 17, a payload of 50). -/
def execSegmentPut (dt : Nat) (s : State) : Host.Outcome State Fault Refusal :=
  .next (serve 17 (fun n => n == 50) answerSegmentPut (advance dt s))

end Sys2Proof.Machine
end

