-- ==== Sys2Proof/Machine/Tables.lean ====
section
/-! DEFINITION. The Table Store (Loaded Tables): the load transaction, validation and the readers' questions. -/

namespace Sys2Proof.Machine

/-! ## One table's status and records (R153) -/

/-- R153: the status of a table. -/
def TableState.status (b : TableState) : TableId → TableStatus
  | .params => b.paramsStatus
  | .grid => b.gridStatus
  | .mask => b.maskStatus

/-- The store with a table's status replaced. -/
def TableState.setStatus (b : TableState) (id : TableId) (x : TableStatus) : TableState :=
  match id with
  | .params => { b with paramsStatus := x }
  | .grid => { b with gridStatus := x }
  | .mask => { b with maskStatus := x }

/-- R156: the store with every record of a table absent. -/
def TableState.emptied (b : TableState) (id : TableId) : TableState :=
  match id with
  | .params => { b with params := [] }
  | .grid => { b with grid := [] }
  | .mask => { b with mask := [] }

/-- R158: the store with a record's octets stored as the next record of a table. -/
def TableState.stored (b : TableState) (id : TableId) (octets : List Byte) : TableState :=
  match id with
  | .params => { b with params := b.params ++ [readParams octets] }
  | .grid => { b with grid := b.grid ++ [readNode octets] }
  | .mask => { b with mask := b.mask ++ [readSector octets] }

/-- R167: a record as it is stored, none when it is absent. -/
def TableState.record (b : TableState) (id : TableId) (k : Nat) : Option (List Byte) :=
  match id with
  | .params => b.params[k]?.map writeParams
  | .grid => b.grid[k]?.map writeNode
  | .mask => b.mask[k]?.map writeSector

/-! ## LOAD BEGIN (R157) -/

/-- R157: the load record at LOAD BEGIN. -/
def LoadRec.begun (id : TableId) : LoadRec where
  table := id
  declared := tableSize id
  stored := 0
  excess := 0
  burst := 0
  burstCount := 0
  check := Config.burstSeed
  firstError := .none

/-- R157: whether the mount mode lets a table be loaded. -/
def loadableIn (id : TableId) (m : Mode) : Bool :=
  match id with
  | .params => m == .parked
  | _ => m == .parked || m == .ready

/-- R156, R157: an accepted LOAD BEGIN. -/
def startLoad (id : TableId) (s : State) : State :=
  s.setTables { (s.tables.emptied id).setStatus id .loading with load := some (LoadRec.begun id) }

/-- R157: LOAD BEGIN. -/
def answerLoadBegin (p : List Byte) (s : State) : Answer :=
  match tableOf (fieldNat p 0 1) with
  | none => refuse .range s
  | some id =>
    answer (firstFailure [
        (fieldNat p 1 2 != tableSize id, .range),
        (s.tables.load.isSome, .busy),
        (!loadableIn id s.mode.mode, .wrongMode)])
      (fun s => accept [] (startLoad id s)) s

/-! ## LOAD DATA (R158, R159) -/

/-- R158: one record of an accepted LOAD DATA. -/
def takeRecord (b : TableState) (r : LoadRec) (octets : List Byte) : TableState × LoadRec :=
  let fed := { r with check := crc16 r.check octets, burstCount := r.burstCount + 1 }
  if r.stored < r.declared then (b.stored r.table octets, { fed with stored := r.stored + 1 })
  else (b, { fed with excess := bump r.excess })

/-- R158: the records of an accepted LOAD DATA, one at a time. -/
def takeRecords (b : TableState) (r : LoadRec) : List (List Byte) → TableState × LoadRec
  | [] => (b, r)
  | o :: rest => takeRecords (takeRecord b r o).1 (takeRecord b r o).2 rest

/-- R159: the load record after a LOAD DATA refused OVERLONG. -/
def LoadRec.overlong (r : LoadRec) : LoadRec :=
  { r with firstError := if r.firstError = .none then .overlong r.burst else r.firstError }

/-- R158: whether a LOAD DATA's count and payload do not fit each other or the table. -/
def badLoadLength (id : TableId) (p : List Byte) : Bool :=
  fieldNat p 0 1 == 0 || decide (Config.loadDataMax < fieldNat p 0 1)
    || p.length != 1 + fieldNat p 0 1 * recordSize id

/-- R158, R201: the reply payload of an accepted LOAD DATA. -/
def loadDataReply (r : LoadRec) : List Byte := encNat 2 r.stored ++ encNat 2 r.excess ++ encNat 1 r.burstCount

/-- R158: an accepted LOAD DATA. -/
def storeData (r : LoadRec) (p : List Byte) (s : State) : Answer :=
  let x := takeRecords s.tables r (splitRecords (fieldNat p 0 1) (recordSize r.table) (p.drop 1))
  accept (loadDataReply x.2) (s.setTables { x.1 with load := some x.2 })

/-- R158, R159: LOAD DATA. -/
def answerLoadData (p : List Byte) (s : State) : Answer :=
  match s.tables.load with
  | none => refuse .notLoading s
  | some r =>
    if badLoadLength r.table p then refuse .badLength s
    else if Config.burstMax < r.burstCount + fieldNat p 0 1 then
      refuse .overlong (s.setTables { s.tables with load := some r.overlong })
    else storeData r p s

/-! ## LOAD BURST END (R160) -/

/-- R160: whether the register agrees with the sender's value. -/
def LoadRec.agrees (r : LoadRec) (p : List Byte) : Bool := r.check.toNat == fieldNat p 0 2

/-- R160: the load record after a burst is closed. -/
def LoadRec.closed (r : LoadRec) (p : List Byte) : LoadRec :=
  { r with
    firstError := if r.firstError = .none ∧ r.agrees p = false then .crc r.burst else r.firstError
    burst := bump r.burst
    burstCount := 0
    check := Config.burstSeed }

/-- R160, R201: the reply payload of a LOAD BURST END: the agreed flag, the burst just closed and the first error. -/
def burstReply (agreed : Bool) (burst : Nat) (e : FirstError) : List Byte :=
  encFlag agreed ++ encNat 2 burst ++ encNat 1 e.code ++ encNat 2 e.burst

/-- R160: LOAD BURST END. -/
def answerLoadBurstEnd (p : List Byte) (s : State) : Answer :=
  match s.tables.load with
  | none => refuse .notLoading s
  | some r =>
    accept (burstReply (r.agrees p) r.burst (r.closed p).firstError)
      (s.setTables { s.tables with load := some (r.closed p) })

/-! ## Validation (R162, R163) -/

/-- The index of the first item that fails a test, counted from `k`. -/
def firstFailing {α : Type} (ok : Nat → α → Bool) : Nat → List α → Option Nat
  | _, [] => none
  | k, x :: rest => if ok k x then firstFailing ok (k + 1) rest else some k

/-- R154: the range of an axis's limits. -/
def limitRange (k : Nat) : Int × Int := if k = 1 then (0, Config.zenith) else (-972000000, 972000000)

/-- R162: conditions 1 to 6 of the record of index `k`. -/
def paramsOk (k : Nat) (r : AxisParams) : Bool :=
  decide (r.lower < r.upper) && decide ((limitRange k).1 ≤ r.lower) && decide (r.upper ≤ (limitRange k).2)
    && decide (200 ≤ r.vmax) && decide (1 ≤ r.amax) && decide (1 ≤ r.trackRate) && decide (r.trackRate ≤ r.vmax)
    && decide (1 ≤ r.settleTol) && decide (1 ≤ r.settleTimeout)
    && decide (1 ≤ r.warn) && decide (r.warn < r.l1) && decide (r.l1 < r.l2) && decide (r.l2 < r.runaway)
    && decide (r.lower ≤ r.park) && decide (r.park ≤ r.upper)
    && decide (r.lower ≤ r.stow) && decide (r.stow ≤ r.upper)
    && (k == 2 || (decide (r.gain ≤ 1000) && decide (0 ≤ r.stepMax) && decide (0 ≤ r.totalMax)))

/-- R162: condition 7, made for EL against a VALID mask. -/
def paramsBelowMask (mask : Option (List Int)) (k : Nat) (r : AxisParams) : Bool :=
  match mask with
  | some m => k != 1 || m.all (fun v => decide (v ≤ r.upper))
  | none => true

/-- R163: a node within ±600,000 in each component. -/
def nodeOk (_k : Nat) (n : GridNode) : Bool := n.all (fun v => decide (-600000 ≤ v) && decide (v ≤ 600000))

/-- R163: a sector value within its range and, when the Axis Parameter Set is VALID, within the EL upper limit. -/
def sectorOk (ps : Option (Tri AxisParams)) (_k : Nat) (v : Int) : Bool :=
  decide (0 ≤ v) && decide (v ≤ Config.zenith)
    && (match ps with
      | some p => decide (v ≤ p.el.upper)
      | none => true)

/-- R162, R163: the index of the first record of a table that fails its validation. -/
def validateTable (id : TableId) (s : State) : Option Nat :=
  match id with
  | .params => firstFailing (fun k r => paramsOk k r && paramsBelowMask (validMask s) k r) 0 s.tables.params
  | .grid => firstFailing nodeOk 0 s.tables.grid
  | .mask => firstFailing (sectorOk (validParams s)) 0 s.tables.mask

/-! ## LOAD END and LOAD ABORT (R161, R164) -/

/-- R161: the first error once an open burst has been judged. -/
def LoadRec.finalError (r : LoadRec) : FirstError :=
  if 0 < r.burstCount ∧ r.firstError = .none then .crc r.burst else r.firstError

/-- R161: the load result. -/
def loadResult (r : LoadRec) (s : State) : LoadResult :=
  match r.finalError with
  | .crc n => .crc n
  | .overlong n => .overlong n
  | .none =>
    if r.stored < r.declared then .short
    else match validateTable r.table s with
      | some k => .validation k
      | none => .ok

/-- R161, R164: a load is ended with a result: the table's status, the last load result, and no load in progress. -/
def finishLoad (r : LoadRec) (res : LoadResult) (s : State) : State :=
  s.setTables { s.tables.setStatus r.table (if res = .ok then .valid else .invalid) with
    load := none
    lastLoad := some ⟨r.table, res, r.stored, r.excess⟩ }

/-- R161, R201: the reply payload of a LOAD END. -/
def loadEndReply (r : LoadRec) (res : LoadResult) : List Byte :=
  encNat 1 res.code ++ encNat 2 res.detail ++ encNat 2 r.stored ++ encNat 2 r.excess

/-- R161: LOAD END. -/
def answerLoadEnd (s : State) : Answer :=
  match s.tables.load with
  | none => refuse .notLoading s
  | some r =>
    accept (loadEndReply r (loadResult r s)) (latch .loadFinished (finishLoad r (loadResult r s) s))

/-- R164: LOAD ABORT. -/
def answerLoadAbort (s : State) : Answer :=
  match s.tables.load with
  | none => refuse .notLoading s
  | some r => accept [] (finishLoad r .aborted s)

/-! ## TABLE READ (R167) and the Mode Controller's questions (R165) -/

/-- R167: TABLE READ. -/
def answerTableRead (p : List Byte) (s : State) : Answer :=
  match tableOf (fieldNat p 0 1) with
  | none => refuse .range s
  | some id =>
    if tableSize id ≤ fieldNat p 1 2 then refuse .range s
    else
      match s.tables.record id (fieldNat p 1 2) with
      | some octets => accept (encNat 1 (s.tables.status id).code ++ encFlag true ++ octets) s
      | none => accept (encNat 1 (s.tables.status id).code ++ encFlag false) s

/-- R165: whether the store allows UNPARK. -/
def allowsUnpark (s : State) : Bool :=
  s.tables.paramsStatus == .valid && s.tables.maskStatus == .valid && s.tables.load.isNone

/-- R165: whether the store allows RUN. -/
def allowsRun (s : State) : Bool := s.tables.maskStatus == .valid && s.tables.load.isNone

end Sys2Proof.Machine
end

