-- ==== Sys2Proof/Machine/ModeCommands.lean ====
section
/-! DEFINITION. The Mode Controller's requests (Mount Modes, Supervision and the Alert Line). -/

namespace Sys2Proof.Machine

/-! ## TIME SET (R179) -/

/-- R179, R151, R74: an accepted TIME SET: the time, the flag, the demand expiries, the decay timer and the track-wait
starts. -/
def setTime (t : Nat) (s : State) : State :=
  let unwaited := fun e : Entry => { e with trackWait := none }
  let s1 := s.setMode { s.mode with mountTime := t, timeSet := true }
  let s2 := s1.setTraj { s1.traj with nextExpiry := demandTimeFrom t }
  let s3 := s2.setGust { s2.gust with decayTimer := s2.gust.decayTimer.map (fun _ => t + Config.gustDecay) }
  s3.setSeq { s3.seq with active := s3.seq.active.map unwaited, queue := s3.seq.queue.map unwaited }

/-- R179: TIME SET. -/
def answerTimeSet (p : List Byte) (s : State) : Answer :=
  let t := fieldNat p 0 6
  answer (firstFailure [
      (decide (Config.maxTime < t), .range),
      (s.mode.mode != .parked, .wrongMode)])
    (fun s => let s1 := setTime t s; accept (encNat 6 s1.now) s1) s

/-! ## KEEPALIVE (R181) -/

/-- R181: whether a keepalive comes within the first quarter of the period. -/
def isEarly (s : State) : Bool :=
  s.mode.supervision == .periodic
    && s.mode.lastCounted.any (fun t => decide (s.now - t < s.mode.period / 4))

/-- R181, R201: the reply payload of a KEEPALIVE. -/
def keepaliveReply (s : State) : List Byte :=
  encNat 1 s.mode.supervision.code ++ encFlag s.mode.toggle ++ encNat 1 (s.mode.period / 1000000)
    ++ encNat 1 s.mode.failures ++ encAbsentNat 6 s.mode.supTimer

/-- R181: an in-range keepalive. -/
def judgeKeepalive (toggle : Bool) (period : Nat) (s : State) : ResultCode × State :=
  if s.mode.supervision = .off then (.ok, s)
  else if toggle = s.mode.toggle then (.stale, s)
  else if isEarly s then (.early, superviseFail s)
  else (.ok, countKeepalive toggle period s)

/-- R181: KEEPALIVE. -/
def answerKeepalive (p : List Byte) (s : State) : Answer :=
  match yesNoOf (fieldNat p 0 1), periodOf (fieldNat p 1 1) with
  | some toggle, some period =>
    let r := judgeKeepalive toggle period s
    ⟨r.2, r.1, keepaliveReply r.2⟩
  | _, _ => ⟨s, .range, keepaliveReply s⟩

/-! ## Making ready and observing (R171, R173) -/

/-- R171: an accepted UNPARK. -/
def beginUnpark (s : State) : State := startEnabling (measuredHold (changeMode .enabling s))

/-- R171: UNPARK. -/
def answerUnpark (s : State) : Answer :=
  answer (firstFailure [
      (s.mode.mode != .parked, .wrongMode),
      (!s.mode.timeSet, .noTime),
      (!allowsUnpark s || !axesOk s, .notReady)])
    (fun s => accept [] (beginUnpark s)) s

/-- R173: an accepted RUN. -/
def beginRun (s : State) : State := startRun (changeMode .observing s)

/-- R173: RUN. -/
def answerRun (s : State) : Answer :=
  answer (firstFailure [
      (s.mode.mode != .ready, .wrongMode),
      (!s.mode.timeSet, .noTime),
      (!allowsRun s, .notReady)])
    (fun s => accept [] (beginRun s)) s

/-- R173, R148: an accepted STOP. -/
def stopNight (s : State) : State := restAtStop (brakeAll (endObservation .stopped (changeMode .ready s)))

/-- R173: a request accepted in OBSERVING alone. -/
def inObserving (act : State → State) (s : State) : Answer :=
  answer (firstFailure [(s.mode.mode != .observing, .wrongMode)]) (fun s => accept [] (act s)) s

/-- R174, R175: a request accepted in READY and OBSERVING. -/
def inSupervised (act : State → State) (s : State) : Answer :=
  answer (firstFailure [(!s.mode.mode.supervised, .wrongMode)]) (fun s => accept [] (act s)) s

/-! ## RELEASE and FAULT CLEAR (R178) -/

/-- R178 step 1, R150: the gust count becomes 0 at RELEASE. -/
def clearGusts (s : State) : State :=
  setAlert .gust false (s.setGust { s.gust with count := 0, decayTimer := none, stowHeld := false })

/-- R178 steps 2 and 3. -/
def clearFailures (s : State) : State :=
  setAlert .supervision false (setAlert .stow false
    (s.setMode { s.mode with failures := 0, consecutive := 0 }))

/-- R178: an accepted RELEASE. -/
def beginRelease (s : State) : State :=
  startEnabling (measuredHold (changeMode .enabling (clearFailures (clearGusts s))))

/-- R178: RELEASE. -/
def answerRelease (s : State) : Answer :=
  answer (firstFailure [(s.mode.mode != .stowed, .wrongMode), (!axesOk s, .notReady)])
    (fun s => accept [] (beginRelease s)) s

/-- R178: the mode a FAULT CLEAR leads to. -/
def clearedMode (s : State) : Mode :=
  if s.gust.count = Config.gustStow ∨ s.mode.failures = Config.supStow then .stowed else .parked

/-- R178: an accepted FAULT CLEAR. -/
def clearFault (s : State) : State := changeMode (clearedMode s) (setAlert .axis false s)

/-- R178: FAULT CLEAR. -/
def answerFaultClear (s : State) : Answer :=
  answer (firstFailure [(s.mode.mode != .fault, .wrongMode), (!axesOk s, .notReady)])
    (fun s => accept [] (clearFault s)) s

/-! ## The commands -/

/-- R179: TIME_SET (kind 1, a payload of 6). -/
def execTimeSet (dt : Nat) (s : State) : Host.Outcome State Fault Refusal :=
  .next (serve 1 (fun n => n == 6) answerTimeSet (advance dt s))

/-- R181: KEEPALIVE (kind 2, a payload of 2). -/
def execKeepalive (dt : Nat) (s : State) : Host.Outcome State Fault Refusal :=
  .next (serve 2 (fun n => n == 2) answerKeepalive (advance dt s))

/-- R171: UNPARK (kind 3, no payload). -/
def execUnpark (dt : Nat) (s : State) : Host.Outcome State Fault Refusal :=
  .next (serve 3 (fun n => n == 0) (fun _ s => answerUnpark s) (advance dt s))

/-- R173: RUN (kind 4, no payload). -/
def execRun (dt : Nat) (s : State) : Host.Outcome State Fault Refusal :=
  .next (serve 4 (fun n => n == 0) (fun _ s => answerRun s) (advance dt s))

/-- R173: STOP (kind 5, no payload). -/
def execStop (dt : Nat) (s : State) : Host.Outcome State Fault Refusal :=
  .next (serve 5 (fun n => n == 0) (fun _ s => inObserving stopNight s) (advance dt s))

/-- R173: HOLD (kind 6, no payload). -/
def execHold (dt : Nat) (s : State) : Host.Outcome State Fault Refusal :=
  .next (serve 6 (fun n => n == 0) (fun _ s => inObserving (addHold .operator) s) (advance dt s))

/-- R173: RESUME (kind 7, no payload). -/
def execResume (dt : Nat) (s : State) : Host.Outcome State Fault Refusal :=
  .next (serve 7 (fun n => n == 0) (fun _ s => inObserving (clearHold .operator) s) (advance dt s))

/-- R174: PARK (kind 8, no payload). -/
def execPark (dt : Nat) (s : State) : Host.Outcome State Fault Refusal :=
  .next (serve 8 (fun n => n == 0) (fun _ s => inSupervised beginPark s) (advance dt s))

/-- R175: STOW (kind 9, no payload). -/
def execStow (dt : Nat) (s : State) : Host.Outcome State Fault Refusal :=
  .next (serve 9 (fun n => n == 0) (fun _ s => inSupervised beginStow s) (advance dt s))

/-- R178: RELEASE (kind 10, no payload). -/
def execRelease (dt : Nat) (s : State) : Host.Outcome State Fault Refusal :=
  .next (serve 10 (fun n => n == 0) (fun _ s => answerRelease s) (advance dt s))

/-- R178: FAULT_CLEAR (kind 11, no payload). -/
def execFaultClear (dt : Nat) (s : State) : Host.Outcome State Fault Refusal :=
  .next (serve 11 (fun n => n == 0) (fun _ s => answerFaultClear s) (advance dt s))

/-- R185: RESET (kind 12, no payload). -/
def execReset (dt : Nat) (s : State) : Host.Outcome State Fault Refusal :=
  .next (serve 12 (fun n => n == 0) (fun _ s => answerReset s) (advance dt s))

end Sys2Proof.Machine
end

