-- ==== Sys2Proof/Machine/PlanCommands.lean ====
section
/-! DEFINITION. The Slew Planner's passes and completions (R55, R66 to R69). -/

namespace Sys2Proof.Machine

/-- R55: the running plan's next pass. -/
def runPass (s : State) : State :=
  match s.planner.running with
  | some r => if passDue r s.now then s.setPlanner { s.planner with running := some (passPlan s r) } else s
  | none => s

/-- R18: the outcome of an observation whose plan failed. -/
def PlanOutcome.asEnding : PlanOutcome → Option Ending
  | .success => none
  | .noTrack => some .noTrack
  | .wrap => some .wrap
  | .noIntercept => some .noIntercept
  | .horizon => some .horizon

/-- R69: the axes still in PROJECT brake when the planner is left IDLE. -/
def brakeWhenIdle (s : State) : State := if s.planner.running.isNone then brakeProjecting s else s

/-- R66 to R69: the running plan completes and is disposed of. -/
def disposePlan (r : PlanRec) (s : State) : State :=
  if r.markHeld then
    match (planOutcome s r).asEnding with
    | none => startWaiting (installPlan r s)
    | some o => brakeWhenIdle (endObservation o (startWaiting s))
  else brakeWhenIdle (startWaiting (discardPlan s))

/-- R66: the running plan's completion. -/
def completePlan (s : State) : State :=
  match s.planner.running with
  | some r => if completionDue r s.now then disposePlan r s else s
  | none => s

/-- R55: PLAN_PASS. -/
def execPlanPass (dt : Nat) (s : State) : Host.Outcome State Fault Refusal := .next (runPass (advance dt s))

/-- R66: PLAN_COMPLETION. -/
def execPlanCompletion (dt : Nat) (s : State) : Host.Outcome State Fault Refusal :=
  .next (completePlan (advance dt s))

end Sys2Proof.Machine
end

