-- ==== Sys2Proof/Machine/ReadCommands.lean ====
section
/-! DEFINITION. The Link Interface's own requests (R194, R195, R197, R198). -/

namespace Sys2Proof.Machine

/-- R197: CAPABILITY_READ (kind 25, no payload). -/
def execCapabilityRead (dt : Nat) (s : State) : Host.Outcome State Fault Refusal :=
  .next (serve 25 (fun n => n == 0) (fun _ s => accept capabilityRecord s) (advance dt s))

/-- R198: STATUS_READ (kind 26, a payload of 1). -/
def execStatusRead (dt : Nat) (s : State) : Host.Outcome State Fault Refusal :=
  .next (serve 26 (fun n => n == 1) answerStatusRead (advance dt s))

/-- R195: EVENT_READ_CLEAR (kind 27, a payload of 0 or 2). -/
def execEventReadClear (dt : Nat) (s : State) : Host.Outcome State Fault Refusal :=
  .next (serve 27 (fun n => n == 0 || n == 2) answerEventReadClear (advance dt s))

/-- R194: EVENT_MASK_SET (kind 28, a payload of 2). -/
def execEventMaskSet (dt : Nat) (s : State) : Host.Outcome State Fault Refusal :=
  .next (serve 28 (fun n => n == 2) answerEventMaskSet (advance dt s))

end Sys2Proof.Machine
end

