-- ==== Sys2Proof/Machine/ResetCommands.lean ====
section
/-! DEFINITION. The two resets and the time base (R179, R184, R185, R199). -/

namespace Sys2Proof.Machine

/-- R185: the Load Monitor after a link reset keeps its gust count and its decay timer (R135). -/
def GustState.linkReset (g : GustState) : GustState :=
  { GustState.reset with count := g.count, decayTimer := g.decayTimer }

/-- R185: the Mode Controller after a link reset keeps Mount Time, the time-set flag and the strap value (R169). -/
def ModeState.linkReset (m : ModeState) : ModeState :=
  { ModeState.reset m.strapHigh with mountTime := m.mountTime, timeSet := m.timeSet }

/-- R185: the part after a link reset. The commands that wait and the draws are the model's. -/
def linkReset (s : State) : State where
  pending := s.pending
  link := LinkState.reset
  seq := SeqState.reset s.now
  store := StoreState.reset
  planner := PlannerState.reset
  traj := TrajState.reset s.traj.nextExpiry
  guide := GuideState.reset
  bus := BusState.reset
  gust := s.gust.linkReset
  mode := s.mode.linkReset
  tables := TableState.reset
  draws := s.draws

/-- R185: whether an accepted RESET takes effect: its reply has been sent. -/
def resetActs (s : State) : Bool := s.link.resetDue && !s.link.outbox.any OutFrame.isReply

/-- R184, R185: POWER_ON_RESET. -/
def execPowerOnReset (strapHigh : Bool) (s : State) : Host.Outcome State Fault Refusal :=
  .next (((State.powerOn strapHigh).setPending s.pending).setDraws s.draws)

/-- R185: LINK_RESET. -/
def execLinkReset (dt : Nat) (s : State) : Host.Outcome State Fault Refusal :=
  .next (if resetActs s then linkReset (advance dt s) else advance dt s)

/-- R179: MOUNT_TIME_HOLD: Mount Time reaches 2^48 − 1 and holds there. -/
def execMountTimeHold (s : State) : Host.Outcome State Fault Refusal :=
  .next (s.setMode { s.mode with mountTime := Config.maxTime })

end Sys2Proof.Machine
end

