-- ==== Sys2Proof/Machine/TableCommands.lean ====
section
/-! DEFINITION. The Table Store's requests (Loaded Tables). -/

namespace Sys2Proof.Machine

/-- R157: LOAD_BEGIN (kind 19, a payload of 3). -/
def execLoadBegin (dt : Nat) (s : State) : Host.Outcome State Fault Refusal :=
  .next (serve 19 (fun n => n == 3) answerLoadBegin (advance dt s))

/-- R158: LOAD_DATA (kind 20, a payload that holds its record count, R201). -/
def execLoadData (dt : Nat) (s : State) : Host.Outcome State Fault Refusal :=
  .next (serve 20 (fun n => n != 0) answerLoadData (advance dt s))

/-- R160: LOAD_BURST_END (kind 21, a payload of 2). -/
def execLoadBurstEnd (dt : Nat) (s : State) : Host.Outcome State Fault Refusal :=
  .next (serve 21 (fun n => n == 2) answerLoadBurstEnd (advance dt s))

/-- R161: LOAD_END (kind 22, no payload). -/
def execLoadEnd (dt : Nat) (s : State) : Host.Outcome State Fault Refusal :=
  .next (serve 22 (fun n => n == 0) (fun _ s => answerLoadEnd s) (advance dt s))

/-- R164: LOAD_ABORT (kind 23, no payload). -/
def execLoadAbort (dt : Nat) (s : State) : Host.Outcome State Fault Refusal :=
  .next (serve 23 (fun n => n == 0) (fun _ s => answerLoadAbort s) (advance dt s))

/-- R167: TABLE_READ (kind 24, a payload of 3). -/
def execTableRead (dt : Nat) (s : State) : Host.Outcome State Fault Refusal :=
  .next (serve 24 (fun n => n == 3) answerTableRead (advance dt s))

end Sys2Proof.Machine
end

