-- ==== Sys2Proof/Machine/TimerCommands.lean ====
section
/-! DEFINITION. The expiries of the part's timers. A timer's command has its effect when the timer runs and its expiry
time has come, and none otherwise (log 1). -/

namespace Sys2Proof.Machine

/-- A timer's expiry, when the timer runs and its time has come. -/
def onExpiry (timer : Option Nat) (act : Nat → State → State) (s : State) : State :=
  match timer with
  | some e => if e ≤ s.now then act e s else s
  | none => s

/-! ## The Sequencer's timers -/

/-- R14: the not-before timer expires: selection is taken, or preemption examined while an entry is ACTIVE. -/
def notBeforeExpires (s : State) : State :=
  let s1 := s.setSeq { s.seq with notBeforeTimer := none }
  if s1.seq.running ∧ s1.seq.holds.isEmpty then selectOrPreempt s1 else s1

/-- R13: the deadline timer expires. -/
def deadlineExpires (s : State) : State := select (s.setSeq { s.seq with deadlineTimer := none })

/-- R15: the track-wait timer expires. -/
def trackWaitExpires (s : State) : State := select (s.setSeq { s.seq with trackWaitTimer := none })

/-- R20: the settle deadline expires. -/
def settleExpires (s : State) : State :=
  let s1 := s.setSeq { s.seq with settleTimer := none }
  if s1.seq.atr.phase = .settling then endObservation .noSettle s1 else s1

/-- R14: NOT_BEFORE_TIMER. -/
def execNotBeforeTimer (dt : Nat) (s : State) : Host.Outcome State Fault Refusal :=
  .next (onExpiry s.seq.notBeforeTimer (fun _ => notBeforeExpires) (advance dt s))

/-- R13: DEADLINE_TIMER. -/
def execDeadlineTimer (dt : Nat) (s : State) : Host.Outcome State Fault Refusal :=
  .next (onExpiry s.seq.deadlineTimer (fun _ => deadlineExpires) (advance dt s))

/-- R15: TRACK_WAIT_TIMER. -/
def execTrackWaitTimer (dt : Nat) (s : State) : Host.Outcome State Fault Refusal :=
  .next (onExpiry s.seq.trackWaitTimer (fun _ => trackWaitExpires) (advance dt s))

/-- R20: SETTLE_DEADLINE. -/
def execSettleDeadline (dt : Nat) (s : State) : Host.Outcome State Fault Refusal :=
  .next (onExpiry s.seq.settleTimer (fun _ => settleExpires) (advance dt s))

/-! ## The Guide Unit's timers -/

/-- R111: the acquire timer expires. -/
def acquireExpires (s : State) : State :=
  endObservation .noGuide (s.setGuide { s.guide with acquireTimer := none })

/-- R112: the lost timer expires. -/
def lostExpires (s : State) : State :=
  endObservation .guideLost (s.setGuide { s.guide with lostTimer := none })

/-- R110: SILENCE_TIMER. -/
def execSilenceTimer (dt : Nat) (s : State) : Host.Outcome State Fault Refusal :=
  .next (onExpiry s.guide.silenceTimer silenceExpires (advance dt s))

/-- R111: ACQUIRE_TIMER. -/
def execAcquireTimer (dt : Nat) (s : State) : Host.Outcome State Fault Refusal :=
  .next (onExpiry s.guide.acquireTimer (fun _ => acquireExpires) (advance dt s))

/-- R112: LOST_TIMER. -/
def execLostTimer (dt : Nat) (s : State) : Host.Outcome State Fault Refusal :=
  .next (onExpiry s.guide.lostTimer (fun _ => lostExpires) (advance dt s))

/-! ## The Load Monitor's timers -/

/-- R147: the check timer expires: the re-enable has failed. -/
def checkExpires (s : State) : State := enterFault (s.setGust { s.gust with checkTimer := none })

/-- R150: the stow-held GUST cause is cleared as the count falls from 5 to 4. -/
def unholdStow (s : State) : State :=
  setAlert .gust false (s.setGust { s.gust with stowHeld := false })

/-- R150: the decay timer, due at `e`, expires. -/
def decayExpires (e : Nat) (s : State) : State :=
  let n := s.gust.count - 1
  let s1 := s.setGust { s.gust with
    count := n, decayTimer := if 0 < n then some (e + Config.gustDecay) else none }
  if s.gust.count = Config.gustStow then unholdStow s1 else s1

/-- R146: REST_TIMER. -/
def execRestTimer (dt : Nat) (s : State) : Host.Outcome State Fault Refusal :=
  .next (onExpiry s.gust.restTimer reenable (advance dt s))

/-- R147: CHECK_TIMER. -/
def execCheckTimer (dt : Nat) (s : State) : Host.Outcome State Fault Refusal :=
  .next (onExpiry s.gust.checkTimer (fun _ => checkExpires) (advance dt s))

/-- R150: DECAY_TIMER. -/
def execDecayTimer (dt : Nat) (s : State) : Host.Outcome State Fault Refusal :=
  .next (onExpiry s.gust.decayTimer decayExpires (advance dt s))

/-! ## The Mode Controller's timers -/

/-- R172: the enabling timer expires. -/
def enablingExpires (s : State) : State := enterFault (s.setMode { s.mode with enablingTimer := none })

/-- R176: the motion settle deadline expires. -/
def motionExpires (s : State) : State := enterFault (s.setMode { s.mode with settleDeadline := none })

/-- R172: ENABLING_TIMER. -/
def execEnablingTimer (dt : Nat) (s : State) : Host.Outcome State Fault Refusal :=
  .next (onExpiry s.mode.enablingTimer (fun _ => enablingExpires) (advance dt s))

/-- R176: MOTION_SETTLE_DEADLINE. -/
def execMotionSettleDeadline (dt : Nat) (s : State) : Host.Outcome State Fault Refusal :=
  .next (onExpiry s.mode.settleDeadline (fun _ => motionExpires) (advance dt s))

/-- R182: SUPERVISION_TIMER. -/
def execSupervisionTimer (dt : Nat) (s : State) : Host.Outcome State Fault Refusal :=
  .next (onExpiry s.mode.supTimer (fun _ => superviseFail) (advance dt s))

end Sys2Proof.Machine
end

