-- ==== Sys2Proof/Machine/Dispatch.lean ====
section
/-! DEFINITION. One arm for each command. -/

namespace Sys2Proof.Machine

def exec (i : Instr) (s : State) : Host.Outcome State Fault Refusal :=
  match i with
  | .powerOnReset strapHigh => Sys2Proof.Machine.execPowerOnReset strapHigh s
  | .linkReset dt => Sys2Proof.Machine.execLinkReset dt s
  | .mountLinkFrame dt octets => Sys2Proof.Machine.execMountLinkFrame dt octets s
  | .replySent dt => Sys2Proof.Machine.execReplySent dt s
  | .unknownKind dt => Sys2Proof.Machine.execUnknownKind dt s
  | .eventNotice dt => Sys2Proof.Machine.execEventNotice dt s
  | .timeSet dt => Sys2Proof.Machine.execTimeSet dt s
  | .keepalive dt => Sys2Proof.Machine.execKeepalive dt s
  | .unpark dt => Sys2Proof.Machine.execUnpark dt s
  | .run dt => Sys2Proof.Machine.execRun dt s
  | .stop dt => Sys2Proof.Machine.execStop dt s
  | .hold dt => Sys2Proof.Machine.execHold dt s
  | .resume dt => Sys2Proof.Machine.execResume dt s
  | .park dt => Sys2Proof.Machine.execPark dt s
  | .stow dt => Sys2Proof.Machine.execStow dt s
  | .release dt => Sys2Proof.Machine.execRelease dt s
  | .faultClear dt => Sys2Proof.Machine.execFaultClear dt s
  | .reset dt => Sys2Proof.Machine.execReset dt s
  | .entryAdd dt => Sys2Proof.Machine.execEntryAdd dt s
  | .entryWithdraw dt => Sys2Proof.Machine.execEntryWithdraw dt s
  | .listRead dt => Sys2Proof.Machine.execListRead dt s
  | .outcomeFetch dt => Sys2Proof.Machine.execOutcomeFetch dt s
  | .segmentPut dt => Sys2Proof.Machine.execSegmentPut dt s
  | .guideCorrection dt => Sys2Proof.Machine.execGuideCorrection dt s
  | .loadBegin dt => Sys2Proof.Machine.execLoadBegin dt s
  | .loadData dt => Sys2Proof.Machine.execLoadData dt s
  | .loadBurstEnd dt => Sys2Proof.Machine.execLoadBurstEnd dt s
  | .loadEnd dt => Sys2Proof.Machine.execLoadEnd dt s
  | .loadAbort dt => Sys2Proof.Machine.execLoadAbort dt s
  | .tableRead dt => Sys2Proof.Machine.execTableRead dt s
  | .capabilityRead dt => Sys2Proof.Machine.execCapabilityRead dt s
  | .statusRead dt => Sys2Proof.Machine.execStatusRead dt s
  | .eventReadClear dt => Sys2Proof.Machine.execEventReadClear dt s
  | .eventMaskSet dt => Sys2Proof.Machine.execEventMaskSet dt s
  | .encoderReport dt octets => Sys2Proof.Machine.execEncoderReport dt octets s
  | .demandExpiry dt => Sys2Proof.Machine.execDemandExpiry dt s
  | .notBeforeTimer dt => Sys2Proof.Machine.execNotBeforeTimer dt s
  | .deadlineTimer dt => Sys2Proof.Machine.execDeadlineTimer dt s
  | .trackWaitTimer dt => Sys2Proof.Machine.execTrackWaitTimer dt s
  | .settleDeadline dt => Sys2Proof.Machine.execSettleDeadline dt s
  | .silenceTimer dt => Sys2Proof.Machine.execSilenceTimer dt s
  | .acquireTimer dt => Sys2Proof.Machine.execAcquireTimer dt s
  | .lostTimer dt => Sys2Proof.Machine.execLostTimer dt s
  | .restTimer dt => Sys2Proof.Machine.execRestTimer dt s
  | .checkTimer dt => Sys2Proof.Machine.execCheckTimer dt s
  | .decayTimer dt => Sys2Proof.Machine.execDecayTimer dt s
  | .enablingTimer dt => Sys2Proof.Machine.execEnablingTimer dt s
  | .motionSettleDeadline dt => Sys2Proof.Machine.execMotionSettleDeadline dt s
  | .supervisionTimer dt => Sys2Proof.Machine.execSupervisionTimer dt s
  | .planPass dt => Sys2Proof.Machine.execPlanPass dt s
  | .planCompletion dt => Sys2Proof.Machine.execPlanCompletion dt s
  | .mountTimeHold => Sys2Proof.Machine.execMountTimeHold s

end Sys2Proof.Machine
end

