-- ==== Sys2Proof/Machine/Step.lean ====
section
/-! DEFINITION. One step: the command at the front of the queue, or, on an empty queue, what the part's own clock brings
(DESIGN CHOICE, logs 2 and 3). -/

namespace Sys2Proof.Machine

/-- R200, R201: the request command of a frame's kind. -/
def requestOfKind : Nat → Instr
  | 1 => .timeSet 0
  | 2 => .keepalive 0
  | 3 => .unpark 0
  | 4 => .run 0
  | 5 => .stop 0
  | 6 => .hold 0
  | 7 => .resume 0
  | 8 => .park 0
  | 9 => .stow 0
  | 10 => .release 0
  | 11 => .faultClear 0
  | 12 => .reset 0
  | 13 => .entryAdd 0
  | 14 => .entryWithdraw 0
  | 15 => .listRead 0
  | 16 => .outcomeFetch 0
  | 17 => .segmentPut 0
  | 18 => .guideCorrection 0
  | 19 => .loadBegin 0
  | 20 => .loadData 0
  | 21 => .loadBurstEnd 0
  | 22 => .loadEnd 0
  | 23 => .loadAbort 0
  | 24 => .tableRead 0
  | 25 => .capabilityRead 0
  | 26 => .statusRead 0
  | 27 => .eventReadClear 0
  | 28 => .eventMaskSet 0
  | _ => .unknownKind 0

/-- R188: the taking of the request at the head of the queue, when it may be taken. -/
def dueRequest (s : State) : List Instr :=
  if mayTake s then (s.link.rx.head?.map (fun f => requestOfKind f.kind.toNat)).toList else []

/-- A command that is due when a test holds. -/
def dueIf (b : Bool) (i : Instr) : List Instr := if b then [i] else []

/-- The timers whose expiry time has come. -/
def dueTimers (s : State) : List Instr :=
  dueIf (timerDue s.seq.notBeforeTimer s.now) (.notBeforeTimer 0)
    ++ dueIf (timerDue s.seq.deadlineTimer s.now) (.deadlineTimer 0)
    ++ dueIf (timerDue s.seq.trackWaitTimer s.now) (.trackWaitTimer 0)
    ++ dueIf (timerDue s.seq.settleTimer s.now) (.settleDeadline 0)
    ++ dueIf (timerDue s.guide.silenceTimer s.now) (.silenceTimer 0)
    ++ dueIf (timerDue s.guide.acquireTimer s.now) (.acquireTimer 0)
    ++ dueIf (timerDue s.guide.lostTimer s.now) (.lostTimer 0)
    ++ dueIf (timerDue s.gust.restTimer s.now) (.restTimer 0)
    ++ dueIf (timerDue s.gust.checkTimer s.now) (.checkTimer 0)
    ++ dueIf (timerDue s.gust.decayTimer s.now) (.decayTimer 0)
    ++ dueIf (timerDue s.mode.enablingTimer s.now) (.enablingTimer 0)
    ++ dueIf (timerDue s.mode.settleDeadline s.now) (.motionSettleDeadline 0)
    ++ dueIf (timerDue s.mode.supTimer s.now) (.supervisionTimer 0)

/-- The running plan's pass or completion that has come. -/
def duePlan (s : State) : List Instr :=
  match s.planner.running with
  | some r => dueIf (passDue r s.now) (.planPass 0) ++ dueIf (completionDue r s.now) (.planCompletion 0)
  | none => []

/-- The events of the part's own that are due at the present Mount Time. -/
def dueEvents (s : State) : List Instr :=
  dueIf (expiryDue s) (.demandExpiry 0) ++ dueTimers s ++ duePlan s ++ dueRequest s
    ++ dueIf (resetActs s) (.linkReset 0)

/-- On an empty queue: 1 µs passes when nothing is due; one event that is due joins the queue, chosen by a free value
where several are due together (logs 2 and 3). -/
def clockTick (s : State) : State :=
  match dueEvents s with
  | [] => advance 1 s
  | [i] => s.setPending [i]
  | several =>
    (s.setPending ((several[Config.tieChoice s.draws several.length % several.length]?).toList)).setDraws
      (s.draws + 1)

/-- One step. -/
def step (s : State) : Host.Outcome State Fault Refusal :=
  match s.pending with
  | [] => .next (clockTick s)
  | i :: rest => exec i (s.setPending rest)

/-- The state with the command a table word spells at the front of its queue. -/
def State.withFetchWord (s : State) (nbits w : Nat) : State :=
  match Sys2Proof.decodeTableWord nbits w with
  | some i => s.setPending (i :: s.pending)
  | none => s

end Sys2Proof.Machine
end

