-- ==== Sys2Proof/Safety.lean ====
section
/-! DEFINITION. What the manual promises of every state and of every command, in the terms the statements use. -/

namespace Sys2Proof.Machine

/-! ## What a command leaves as it is -/

/-- The units of the part (Introduction). -/
inductive Part where
  | link
  | seq
  | store
  | planner
  | traj
  | guide
  | bus
  | gust
  | mode
  | tables
deriving DecidableEq, Repr

/-- One unit's state is the same in two states. -/
def Part.same (s t : State) : Part → Prop
  | .link => t.link = s.link
  | .seq => t.seq = s.seq
  | .store => t.store = s.store
  | .planner => t.planner = s.planner
  | .traj => t.traj = s.traj
  | .guide => t.guide = s.guide
  | .bus => t.bus = s.bus
  | .gust => t.gust = s.gust
  | .mode => t.mode = s.mode
  | .tables => t.tables = s.tables

/-- The listed units, the waiting commands and the draws are the same in two states. -/
def Keeps (us : List Part) (s t : State) : Prop :=
  t.pending = s.pending ∧ t.draws = s.draws ∧ ∀ u ∈ us, u.same s t

/-- The receive queue, the counts, the mask, the frame last sent and a due reset are the same in two states. -/
def LinkKept (s t : State) : Prop :=
  t.link.rx = s.link.rx ∧ t.link.badFrames = s.link.badFrames ∧ t.link.overruns = s.link.overruns
    ∧ t.link.mask = s.link.mask ∧ t.link.sent = s.link.sent ∧ t.link.resetDue = s.link.resetDue

/-- R193: the kinds of a list as a set. -/
def kindsOf : List EventKind → BitVec 16
  | [] => 0
  | k :: rest => k.word ||| kindsOf rest

/-- R193: exactly the enabled kinds of the list, those whose bit of the mask is 1 (log 46), have joined the event set.
-/
def Latches (ks : List EventKind) (s t : State) : Prop :=
  t.link.events = s.link.events ||| (s.link.mask &&& kindsOf ks)

/-- R196: the notices built between two states: one exactly when the event set was empty, the flag armed, and a kind
has joined; the flag is then disarmed. -/
def Notices (s t : State) (notices : List OutFrame) : Prop :=
  (∀ o ∈ notices, o.isReply = false)
    ∧ notices.length = (if s.link.events = 0 ∧ s.link.noticeArmed = true ∧ t.link.events ≠ 0 then 1 else 0)
    ∧ t.link.noticeArmed = (s.link.noticeArmed && !(decide (s.link.events = 0) && decide (t.link.events ≠ 0)))

/-- What the latches of a command may do to the Link Interface: enabled kinds join the event set and the notice they
bring joins the outgoing frames, and nothing else. -/
structure LinkGrows (s t : State) : Prop where
  kept : LinkKept s t
  frameFault : t.link.frameFault = s.link.frameFault
  events : ∃ e, t.link.events = s.link.events ||| (s.link.mask &&& e)
  outbox : ∃ notices, t.link.outbox = s.link.outbox ++ notices ∧ Notices s t notices

/-- The effect on the Link Interface and on the units left alone of an event that latches the kinds `ks`. -/
def Event (ks : List EventKind) (us : List Part) (s t : State) : Prop :=
  LinkGrows s t ∧ Latches ks s t ∧ Keeps us s t

/-! ## Requests and their replies (R188, R190 to R192) -/

/-- R188: `f`, of kind `k`, is at the head of the receive queue and may be taken. -/
def Requested (k : Nat) (f : Frame) (s : State) : Prop :=
  s.link.rx.head? = some f ∧ f.kind.toNat = k ∧ mayTake s = true

/-- R192, R201: the payload of the reply of a request answered with `code` and `payload` in `t`, taken in `s`: the
status summary is that of `t` with the frame-fault flag as it stood, its own slot freed (R188, R190). -/
def replyOctets (code : ResultCode) (payload : List Byte) (s t : State) : List Byte :=
  encNat 1 code.code
    ++ summary (freeSlots t + 1) (t.setLink { t.link with frameFault := s.link.frameFault }) ++ payload

/-- R190, R192: between `s` and `t` the request `f` has been answered: its reply, which carries its tag, stands behind
the frames built before it and ahead of the notices built while it was carried out, and the frame-fault flag is
clear. That place is read from R196, "A notice is sent when the outgoing side is next free, after any reply then being
sent" (DEDUCED, log 9). -/
def Answered (f : Frame) (code : ResultCode) (payload : List Byte) (s t : State) : Prop :=
  t.link.frameFault = false ∧
    ∃ notices, t.link.outbox = s.link.outbox ++ .reply f.tag (replyOctets code payload s t) :: notices
      ∧ Notices s t notices

/-- The effect on the Link Interface and on the units left alone of a request `f` that is answered `code` and latches
the kinds `ks`. -/
def Effect (f : Frame) (code : ResultCode) (payload : List Byte) (ks : List EventKind) (us : List Part)
    (s t : State) : Prop :=
  Answered f code payload s t ∧ LinkKept s t ∧ Latches ks s t ∧ Keeps us s t

/-- The units a request owned outside the Link Interface may change: all but the Link Interface. -/
def Part.owners : List Part := [.seq, .store, .planner, .traj, .guide, .bus, .gust, .mode, .tables]

/-- R201: the request kinds, each with its command and the payload lengths it allows. -/
def requestTable : List (Nat × (Nat → Instr) × (Nat → Bool)) :=
  [(1, .timeSet, (· == 6)), (2, .keepalive, (· == 2)), (3, .unpark, (· == 0)), (4, .run, (· == 0)),
    (5, .stop, (· == 0)), (6, .hold, (· == 0)), (7, .resume, (· == 0)), (8, .park, (· == 0)),
    (9, .stow, (· == 0)), (10, .release, (· == 0)), (11, .faultClear, (· == 0)), (12, .reset, (· == 0)),
    (13, .entryAdd, (· == 28)), (14, .entryWithdraw, (· == 2)), (15, .listRead, (· == 1)),
    (16, .outcomeFetch, (· == 0)), (17, .segmentPut, (· == 50)), (18, .guideCorrection, (· == 12)),
    (19, .loadBegin, (· == 3)), (20, .loadData, (1 ≤ ·)), (21, .loadBurstEnd, (· == 2)),
    (22, .loadEnd, (· == 0)), (23, .loadAbort, (· == 0)), (24, .tableRead, (· == 3)),
    (25, .capabilityRead, (· == 0)), (26, .statusRead, (· == 1)),
    (27, .eventReadClear, (fun n => n == 0 || n == 2)), (28, .eventMaskSet, (· == 2))]

/-! ## Values after a reset (R28, R49, R71, R73, R100, R118, R133, R153, R199) -/

/-- R17: the active-target record after a reset at `now`; the activation time is the model's choice (log 5). -/
def resetRecord (now : Nat) : ActiveRec :=
  ⟨0, .none, now, none, none, 0, none, ⟨0, 0, 0⟩, none, ⟨none, none, none⟩, 0, 0⟩

/-- R73: one axis's motion after a reset: HOLD, unset, with every count 0. The velocity last sent is the model's choice
(log 13). -/
def resetMotion : AxisMotion := ⟨.hold, none, none, none, none, 0, 0, 0, 0⟩

/-- R118: one axis of the Axis Bus Controller after a reset: no demand, no report, OK. -/
def resetAxis : AxisRec := ⟨[], .ok, 0, false, none, none, none, none, none, 0⟩

/-- R135: one axis of the Load Monitor after a reset: every counter 0, the warn arm armed, the mark clear. -/
def resetGustAxis : AxisGust := ⟨0, 0, 0, true, 0, 0, false⟩

/-- What both resets leave in the units that take the same values at each. -/
structure UnitsReset (now next : Nat) (t : State) : Prop where
  seq : t.seq = ⟨none, [], resetRecord now, false, ⟨false, false, false, false, false⟩, [],
    none, none, none, none⟩
  store : t.store = ⟨[], true⟩
  planner : t.planner = ⟨none, none, 0, 0⟩
  traj : t.traj = ⟨⟨resetMotion, resetMotion, resetMotion⟩, ⟨0, 0⟩, none, 0, next⟩
  guide : t.guide = ⟨.off, .none, 0, 0, none, 0, 0, false, none, none, none⟩
  bus : t.bus = ⟨0, .none, none, none, 0, ⟨resetAxis, resetAxis, resetAxis⟩, none⟩
  tables : t.tables = ⟨[], [], [], .empty, .empty, .empty, none, none⟩
  queue : t.link.rx = [] ∧ t.link.frameFault = false ∧ t.link.badFrames = 0 ∧ t.link.overruns = 0
  events : t.link.events = 1#16 ∧ t.link.mask = 0xFFFF#16 ∧ t.link.noticeArmed = false
  notice : t.link.outbox = [.notice [0, 0, 0, 1, 8, 0, 1]] ∧ t.link.resetDue = false

/-! ## Motions, endings and plan requests -/

/-- R77: a brake instruction on one axis. -/
def AxisBraked (a b : AxisMotion) : Prop :=
  b = { a with motion := if a.motion = .hold then .hold else .brake, line := none, profile := none }

/-- R77: a brake instruction on every axis, and nothing else in the Trajectory Unit. -/
def AllBraked (s t : State) : Prop :=
  (∀ i, AxisBraked (s.traj.axes.get i) (t.traj.axes.get i))
    ∧ t.traj = { s.traj with axes := t.traj.axes }

/-- R76: a measured-position hold on every axis, and nothing else in the Trajectory Unit. -/
def AllHeld (s t : State) : Prop :=
  t.traj = { s.traj with axes := t.traj.axes } ∧ ∀ i,
    (∀ m, (s.bus.axes.get i).measured = some m → t.traj.axes.get i = { s.traj.axes.get i with
      motion := .hold, line := none, profile := none, last := some m, prev := some m })
    ∧ ((s.bus.axes.get i).measured = none → t.traj.axes.get i = { s.traj.axes.get i with
      motion := .hold, line := none, profile := none })

/-- R64: the mark of a plan of one kind is withdrawn. -/
def unmarked (kind : PlanKind) (r : PlanRec) : PlanRec :=
  if r.kind = kind then { r with markHeld := false } else r

/-- R11: selection has nothing to take: the run is stopped, a reason holds it, or the queued order is empty. -/
def SelectionBlocked (s : State) : Prop :=
  s.seq.running = false ∨ s.seq.holds.isEmpty = false ∨ s.seq.queue = []

/-- R23: the kinds an ending latches: GUIDE_CHANGED when the guide state was not OFF (R103, R115), TARGET_ENDED, and
LIST_EMPTY when no entry is left. -/
def endKinds (s : State) : List EventKind :=
  (if s.guide.phase = .off then [] else [.guideChanged])
    ++ .targetEnded :: (if s.seq.queue.isEmpty then [.listEmpty] else [])

/-- R23: what an ending of the active entry's observation leaves, when selection has nothing to take after it. -/
structure Ended (o : Ending) (e : Entry) (s t : State) : Prop where
  seq : t.seq = { s.seq with
    active := none
    atr := { s.seq.atr with phase := .none }
    outcomes := s.seq.outcomes ++ [endRecord o false s.seq.atr s.now]
    notBeforeTimer := none
    settleTimer := none }
  guide : t.guide = { s.guide with
    phase := .off, mode := .none, azOffset := 0, elOffset := 0
    silenceTimer := none, acquireTimer := none, lostTimer := none }
  store : t.store = { s.store with held := s.store.held.filter (fun g => g.target != e.id) }
  planner : t.planner = { s.planner with
    running := s.planner.running.map (unmarked .target)
    waiting := s.planner.waiting.filter (fun r => r.kind != .target) }
  traj : AllBraked s t

/-- R51, R54: an axis that a plan of a kind plans: every axis, and EL alone for a STOW. -/
def Planned (kind : PlanKind) (i : Axis) : Prop := kind ≠ .stow ∨ i = .el

/-- R51 to R54: the record of a plan of one kind requested at `now`, with the axes as the request leaves them: an axis
at rest starts from its held demand and one in PROJECT from its line at t_s; each planned axis is yet to make its first
pass. -/
structure RequestedPlan (k : PlanKind) (target : Option Nat) (now : Nat) (axes : Tri AxisMotion)
    (r : PlanRec) : Prop where
  kind : r.kind = k
  target : r.target = target
  request : r.request = now
  ts : r.ts % 5000 = 0 ∧ now + 10000 ≤ r.ts ∧ r.ts < now + 15000
  mark : r.markHeld = true
  passes : r.passes = ⟨0, 0, 0⟩ ∧ r.stopped = none ∧ r.wraps = none ∧ r.tables = none
  work : ∀ i, (Planned k i → r.work.get i = .iterating 0) ∧ (¬ Planned k i → r.work.get i = .notPlanned)
  fromRest : ∀ i l, Planned k i → (axes.get i).motion = .hold → (axes.get i).last = some l → r.ps.get i = l
  fromLine : ∀ i l, Planned k i → (axes.get i).motion = .project → (axes.get i).line = some l →
    r.ps.get i = l.base + l.step * (((r.ts : Int) - (l.baseTime : Int)) / 5000)

/-- R52: a requested plan is the running plan when the planner was IDLE, and the pending request otherwise. -/
def PlanPlaced (r : PlanRec) (s t : State) : Prop :=
  if s.planner.running = none then t.planner.running = some r ∧ r.start = some s.now
  else t.planner.waiting = some r

/-- R54, R79: an axis that a plan request projects at last demand time `t`: one in HOLD stays there, one in PROJECT
stays there, and any other enters PROJECT with the line through its last demand. -/
def AxisProjected (t : Nat) (a b : AxisMotion) : Prop :=
  b.last = a.last ∧ b.prev = a.prev ∧ b.profile = none
    ∧ (a.motion = .hold → b.motion = .hold) ∧ (a.motion ≠ .hold → b.motion = .project)
    ∧ (a.motion ≠ .hold → a.motion ≠ .project → ∀ l p, a.last = some l → a.prev = some p →
        b.line = some ⟨l, t, l - p⟩)

/-- R148: what PARK, STOW and a supervision stow make of a gust rest. -/
def RestAtMotion (s t : State) : Prop :=
  (s.gust.rest = .braking → t.gust.rest = .none ∧ t.gust.restTimer = none ∧ t.bus.override = .none
      ∧ t.seq.holds.gustRest = false ∧ t.mode.alerts.gust = false)
    ∧ (s.gust.rest = .resting → t.gust.rest = .checking ∧ t.gust.restTimer = none
      ∧ t.bus.override = .none ∧ t.gust.checkTimer = some (s.now + 2000000)
      ∧ ∀ i, (t.gust.axes.get i).enabled = false)
    ∧ (s.gust.rest = .none ∨ s.gust.rest = .checking → t.gust = s.gust ∧ t.bus = s.bus)

/-- R170, R174, R175: what the beginning of a park or stow motion leaves. -/
structure MotionBegun (kind : PlanKind) (m : Mode) (s t : State) : Prop where
  mode : t.mode.mode = m
  settle : t.mode.settle = .awaiting ∧ t.mode.settleDeadline = none ∧ t.mode.motionStart = none
  supervision : t.mode.supervision = .off ∧ t.mode.supTimer = none ∧ t.mode.lastCounted = none
  stopped : t.seq.running = false ∧ t.seq.active = none ∧ t.seq.atr.phase = .none
  list : t.seq.queue = s.seq.queue
  outcomes : t.seq.outcomes = s.seq.outcomes
    ++ (if s.seq.active.isSome then [endRecord .stopped false s.seq.atr s.now] else [])
  plan : ∃ r, RequestedPlan kind none s.now t.traj.axes r ∧ PlanPlaced r s t
  axes : ∀ i,
    if kind = .stow ∧ i ≠ .el then
      ((t.traj.axes.get i).motion = if (s.traj.axes.get i).motion = .hold then .hold else .brake)
    else AxisProjected s.traj.lastTime (s.traj.axes.get i) (t.traj.axes.get i)
  rest : RestAtMotion s t

/-! ## Selection and preemption (R11 to R16, R24, R25) -/

/-- R11 (with log 17 for the track-wait timer): the wait timers are stopped as selection begins again. -/
def waitsStopped (q : SeqState) : SeqState :=
  { q with notBeforeTimer := none, deadlineTimer := none, trackWaitTimer := none }

/-- R13, R15, R25: the head `e` has been skipped with outcome `o`. -/
structure Skipped (o : Ending) (e : Entry) (rest : List Entry) (s t : State) : Prop where
  seq : t.seq = { waitsStopped s.seq with
    queue := rest
    outcomes := s.seq.outcomes
      ++ [⟨e.id, o, false, s.now, s.now, 0, none, none, none, 0, 0, ⟨none, none, none⟩⟩] }
  store : t.store = { s.store with held := s.store.held.filter (fun g => g.target != e.id) }
  event : Event (.targetEnded :: if rest.isEmpty then [.listEmpty] else [])
    [.planner, .traj, .guide, .bus, .gust, .mode, .tables] s t

/-- R14: the not-before timer while an entry is ACTIVE: it runs for an URGENT head whose not-before is to come. -/
def preemptionTimer (rest : List Entry) (now : Nat) : Option Nat :=
  match rest with
  | [] => none
  | h :: _ => if h.priority = .urgent then h.notBefore.filter (fun b => decide (now < b)) else none

/-- R16, R17, R93: the head `e` has been activated. -/
structure Activated (e : Entry) (rest : List Entry) (s t : State) : Prop where
  seq : t.seq = { waitsStopped s.seq with
    active := some e
    queue := rest
    atr := ⟨e.id, .planning, s.now, none, none, 0, none, ⟨0, 0, 0⟩, none, ⟨none, none, none⟩, 0, 0⟩
    notBeforeTimer := preemptionTimer rest s.now }
  store : t.store = { s.store with lowArmed := true }
  guide : t.guide = { s.guide with
    azOffset := 0, elOffset := 0, corrections := 0, saturations := 0, lastSeq := none }
  plan : ∃ r, RequestedPlan .target (some e.id) s.now t.traj.axes r ∧ PlanPlaced r s t
  axes : ∀ i, AxisProjected s.traj.lastTime (s.traj.axes.get i) (t.traj.axes.get i)
  clamps : ∀ i, (t.traj.axes.get i).clampRun = 0
  event : Event [.targetStarted] [.bus, .gust, .mode, .tables] s t

/-- The listed units, the waiting commands, the draws and the event set of `t` are those of `u`. -/
def UnitsAre (us : List Part) (u t : State) : Prop := Keeps us u t ∧ t.link.events = u.link.events

/-- R10, R37: what an event that may begin an observation brings: selection where no entry is ACTIVE, and the
examination of preemption where one is. -/
def chosen (u : State) : State := if u.seq.active.isSome = true then examinePreemption u else select u

/-- R10: between `s` and `t` a reason has left the hold-reason set: where that empties the set in RUNNING, selection is
taken or preemption examined, and nothing else follows in any other case. -/
def HoldCleared (r : HoldReason) (us : List Part) (s t : State) : Prop :=
  let u := s.setSeq { s.seq with holds := s.seq.holds.put r false }
  UnitsAre us (if s.seq.holds.has r = true ∧ u.seq.holds.isEmpty = true ∧ s.seq.running = true then chosen u else u) t

/-- R23 steps 1 to 7: what an ending of the active entry's observation leaves before its selection. -/
structure Closed (o : Ending) (e : Entry) (s u : State) : Prop where
  seq : u.seq = { s.seq with
    active := none
    atr := { s.seq.atr with phase := .none }
    outcomes := s.seq.outcomes ++ [endRecord o false s.seq.atr s.now]
    notBeforeTimer := none
    settleTimer := none }
  guide : u.guide = { s.guide with
    phase := .off, mode := .none, azOffset := 0, elOffset := 0
    silenceTimer := none, acquireTimer := none, lostTimer := none }
  store : u.store = { s.store with held := s.store.held.filter (fun g => g.target != e.id) }
  planner : u.planner = { s.planner with
    running := s.planner.running.map (unmarked .target)
    waiting := s.planner.waiting.filter (fun r => r.kind != .target) }
  traj : s.planner.waiting = none ∨ s.planner.running.isSome = true → u.traj = s.traj
  event : Event (endKinds s) [.bus, .gust, .mode, .tables] s u

/-- R23 step 8: the selection after an ending, and the brake instruction where it activates no entry. -/
def SelectedOrBraked (u t : State) : Prop :=
  ((select u).seq.active.isSome = true → UnitsAre Part.owners (select u) t)
    ∧ ((select u).seq.active = none →
        UnitsAre [.seq, .store, .planner, .guide, .bus, .gust, .mode, .tables] (select u) t ∧ AllBraked (select u) t)

/-- R24: the head `h` may preempt the active entry `e`. -/
def Preempts (e h : Entry) (s : State) : Prop :=
  s.seq.running = true ∧ s.seq.holds.isEmpty = true ∧ h.priority = .urgent
    ∧ (∀ b, h.notBefore = some b → b ≤ s.now) ∧ (∃ g ∈ s.store.held, g.target = h.id)
    ∧ e.priority = .normal ∧ e.preemptible = true ∧ s.seq.atr.phase ≠ .none

/-- R24: whether a preempted entry with a tracked time returns to the list. -/
def Requeues (e : Entry) (tracked : Nat) : Prop :=
  e.requeue = true ∧ e.requeues < 3 ∧ ∃ m, e.minDwell = some m ∧ tracked + m ≤ e.dwell

/-! ## Octets of request records (R202) -/

/-- R202: the 28 octets of an entry record. -/
def entryOctets (e : Entry) : List Byte :=
  beOctets 2 e.id ++ beOctets 1 e.priority.code
    ++ beOctets 1 (e.notBefore.isSome.toNat + 2 * e.notAfter.isSome.toNat + 4 * e.minDwell.isSome.toNat)
    ++ beOctets 6 (e.notBefore.getD 0) ++ beOctets 6 (e.notAfter.getD 0) ++ beOctets 4 e.dwell
    ++ beOctets 1 e.preemptible.toNat ++ beOctets 1 e.requeue.toNat ++ beOctets 4 (e.minDwell.getD 0)
    ++ beOctets 1 e.guideMode.code
    ++ beOctets 1 (match e.wrapPref with | .nearest => 0 | .high => 1 | .low => 2)

/-- Fields of an entry that its octets can carry, with the kept fields as ENTRY ADD sets them. -/
def EntryFits (e : Entry) : Prop :=
  e.id < 2 ^ 16 ∧ (∀ t, e.notBefore = some t → t < 2 ^ 48) ∧ (∀ t, e.notAfter = some t → t < 2 ^ 48)
    ∧ e.dwell < 2 ^ 32 ∧ (∀ m, e.minDwell = some m → m < 2 ^ 32) ∧ e.requeues = 0 ∧ e.trackWait = none

/-- A signed number in 4 octets, in two's complement (R200). -/
def signedOctets (v : Int) : List Byte := beOctets 4 (v % 2 ^ 32).toNat

/-- A number that 4 signed octets carry. -/
def Fits32 (v : Int) : Prop := -(2 ^ 31) ≤ v ∧ v < 2 ^ 31

/-- R202: the three coefficients of one axis. -/
def polyOctets (p : Poly) : List Byte := signedOctets p.p0 ++ signedOctets p.v ++ signedOctets p.a

/-- R202: the 50 octets of a segment record. -/
def segmentOctets (g : Segment) : List Byte :=
  beOctets 2 g.target ++ beOctets 2 g.number ++ beOctets 6 g.start ++ beOctets 4 g.dur
    ++ polyOctets g.poly.az ++ polyOctets g.poly.el ++ polyOctets g.poly.rot

/-- Fields of a segment that its octets can carry. -/
def SegmentFits (g : Segment) : Prop :=
  g.target < 2 ^ 16 ∧ g.number < 2 ^ 16 ∧ g.start < 2 ^ 48 ∧ g.dur < 2 ^ 32
    ∧ ∀ i, Fits32 (g.poly.get i).p0 ∧ Fits32 (g.poly.get i).v ∧ Fits32 (g.poly.get i).a

/-- R202: the 62 octets of an Axis Parameter record, its fields signed as log 23 reads R200. -/
def paramsOctets (p : AxisParams) : List Byte :=
  signedOctets p.lower ++ signedOctets p.upper ++ signedOctets p.vmax ++ signedOctets p.amax
    ++ signedOctets p.trackRate ++ beOctets 4 p.settleTol ++ beOctets 4 p.settleTimeout ++ beOctets 4 p.warn
    ++ beOctets 4 p.l1 ++ beOctets 4 p.l2 ++ beOctets 4 p.runaway ++ signedOctets p.park ++ signedOctets p.stow
    ++ beOctets 2 p.gain ++ signedOctets p.stepMax ++ signedOctets p.totalMax

/-- Parameters that the octets of a record can carry. -/
def ParamsFit (p : AxisParams) : Prop :=
  (∀ v ∈ [p.lower, p.upper, p.vmax, p.amax, p.trackRate, p.park, p.stow, p.stepMax, p.totalMax], Fits32 v)
    ∧ (∀ n ∈ [p.settleTol, p.settleTimeout, p.warn, p.l1, p.l2, p.runaway], n < 2 ^ 32) ∧ p.gain < 2 ^ 16

/-- R202: the 12 octets of a grid node record. -/
def nodeOctets (n : GridNode) : List Byte := signedOctets n.az ++ signedOctets n.el ++ signedOctets n.rot

/-- R202: the 50 octets of an outcome record; an absent field is sent as 0, and a peak is unsigned (log 38). -/
def outcomeOctets (r : OutcomeRec) : List Byte :=
  let turn := fun v : Int => beOctets 1 (v % 256).toNat
  beOctets 2 r.target ++ beOctets 1 r.outcome.code
    ++ beOctets 1 (r.requeued.toNat + 2 * r.slewStart.isSome.toNat + 4 * r.trackStart.isSome.toNat
        + 8 * r.wraps.isSome.toNat + 16 * r.peak.az.isSome.toNat + 32 * r.peak.el.isSome.toNat
        + 64 * r.peak.rot.isSome.toNat)
    ++ beOctets 6 r.activation ++ beOctets 6 r.endTime ++ beOctets 4 r.tracked ++ beOctets 6 (r.slewStart.getD 0)
    ++ beOctets 6 (r.trackStart.getD 0) ++ turn ((r.wraps.map WrapTurns.az).getD 0)
    ++ turn ((r.wraps.map WrapTurns.rot).getD 0) ++ beOctets 2 r.corrections ++ beOctets 2 r.saturations
    ++ beOctets 4 (r.peak.az.getD 0) ++ beOctets 4 (r.peak.el.getD 0) ++ beOctets 4 (r.peak.rot.getD 0)

/-- Fields of an outcome record that its octets can carry. -/
def OutcomeFits (r : OutcomeRec) : Prop :=
  r.target < 2 ^ 16 ∧ r.activation < 2 ^ 48 ∧ r.endTime < 2 ^ 48 ∧ r.tracked < 2 ^ 32
    ∧ (∀ t, r.slewStart = some t → t < 2 ^ 48) ∧ (∀ t, r.trackStart = some t → t < 2 ^ 48)
    ∧ (∀ w, r.wraps = some w → -1 ≤ w.az ∧ w.az ≤ 1 ∧ -1 ≤ w.rot ∧ w.rot ≤ 1)
    ∧ r.corrections < 2 ^ 16 ∧ r.saturations < 2 ^ 16 ∧ ∀ i n, r.peak.get i = some n → n < 2 ^ 32

/-! ## Octets of the status sections (R203), field by field as the status rules list them -/

/-- R200: an enumeration's octet, its place in the order of the manual. -/
def placeOctet {α : Type} [BEq α] (order : List α) (x : α) : List Byte := beOctets 1 (order.idxOf x)

/-- R200: a yes/no octet. -/
def yesOctet (b : Bool) : List Byte := beOctets 1 b.toNat

/-- R203: an optional field of `w` octets behind its flag octet, its octets 0 when it is absent. -/
def flaggedOctets (w : Nat) : Option (List Byte) → List Byte
  | some octets => 1 :: octets
  | none => 0 :: List.replicate w 0

/-- R203: a timer: its running flag and its expiry time. -/
def timerOctets (o : Option Nat) : List Byte := flaggedOctets 6 (o.map (encNat 6))

/-- R203: a per-axis item. -/
def axisOctets (f : Axis → List Byte) : List Byte := f .az ++ f .el ++ f .rot

/-- R29, section 0. The place of the tracked time is the model's choice (log 39), and its width (log 12). -/
def sequencerOctets (s : State) : List Byte :=
  let r := s.seq.atr
  let h := s.seq.holds
  encNat 2 r.target ++ encNat 2 (s.seq.active.toList.length + s.seq.queue.length)
    ++ encNat 2 s.seq.outcomes.length
    ++ beOctets 1 (h.operator.toNat + 2 * h.outcomeFull.toNat + 4 * h.link.toNat + 8 * h.gustL1.toNat
        + 16 * h.gustRest.toNat)
    ++ axisOctets (fun i => encNat 2 (r.settle.get i)) ++ encNat 6 r.activation ++ timerOctets r.slewStart
    ++ timerOctets r.trackStart ++ encNat 4 r.tracked ++ timerOctets r.settleDeadline

/-- R50, section 1: the chains in the order of the Night List (log 20); behind the fields of R50 the mark of R47 (log
34). -/
def storeOctets (s : State) : List Byte :=
  let chain := fun id => s.store.held.filter (fun g => g.target == id)
  let ids := ((s.seq.active.toList ++ s.seq.queue).map Entry.id).filter (fun id => !(chain id).isEmpty)
  let last := fun id => (chain id).getLast?.map (fun g => g.start + g.dur)
  encNat 2 s.store.held.length ++ encNat 2 (24 - s.store.held.length)
    ++ encNat 1 ids.length
    ++ ids.flatMap (fun id => encNat 2 id ++ encNat 2 (chain id).length
        ++ encNat 6 (((chain id).head?.map Segment.start).getD 0) ++ encNat 6 ((last id).getD 0))
    ++ flaggedOctets 6 (s.seq.active.map (fun e =>
        encSpan (((last e.id).map (fun x => (x : Int) - (s.now : Int))).getD Config.emptyMargin)))
    ++ yesOctet s.store.lowArmed ++ encNat 4 10000000

/-- R72, section 2. The presence flag of the running plan is the model's choice (log 41). -/
def plannerOctets (s : State) : List Byte :=
  let kind := fun r : PlanRec => placeOctet [.target, .park, .stow] r.kind
  let target := fun r : PlanRec => flaggedOctets 2 (r.target.map (encNat 2))
  let mark := fun r : PlanRec => beOctets 1 (if r.markHeld = true then 0 else 1)
  yesOctet s.planner.running.isSome
    ++ flaggedOctets 30 (s.planner.running.map (fun r => kind r ++ target r ++ encNat 6 r.request
        ++ timerOctets r.start ++ encNat 6 r.ts ++ mark r ++ axisOctets (fun i => encNat 2 (r.passes.get i))))
    ++ flaggedOctets 11 (s.planner.waiting.map (fun r => kind r ++ target r ++ encNat 6 r.ts ++ mark r))
    ++ encNat 2 s.planner.installed ++ encNat 2 s.planner.discarded

/-- R99, section 3. -/
def trajectoryOctets (s : State) : List Byte :=
  let a := s.traj.axes.get
  axisOctets (fun i => placeOctet [.hold, .brake, .project, .slew, .track, .coast] (a i).motion)
    ++ axisOctets (fun i => yesOctet (a i).last.isNone)
    ++ axisOctets (fun i => flaggedOctets 4 ((a i).last.map (encInt 4)))
    ++ axisOctets (fun i => flaggedOctets 4 ((a i).prev.map (encInt 4)))
    ++ axisOctets (fun i => encInt 4 (a i).velocity)
    ++ axisOctets (fun i => flaggedOctets 14 ((a i).line.map (fun l =>
        encInt 4 l.base ++ encNat 6 l.baseTime ++ encInt 4 l.step)))
    ++ axisOctets (fun i => flaggedOctets 26 ((a i).profile.map (fun p => encNat 6 p.ts ++ encInt 4 p.ps
        ++ encInt 4 p.dist ++ encNat 4 p.ta ++ encNat 4 p.tc ++ encNat 4 p.time)))
    ++ axisOctets (fun i => encNat 2 (a i).clampRun) ++ axisOctets (fun i => encNat 2 (a i).velTally)
    ++ axisOctets (fun i => encNat 2 (a i).posTally) ++ encInt 1 s.traj.wraps.az ++ encInt 1 s.traj.wraps.rot
    ++ flaggedOctets 1 (s.traj.coverage.map (placeOctet [.within, .forward, .backward, .uncovered]))

/-- R116, section 4. -/
def guideOctets (s : State) : List Byte :=
  let g := s.guide
  placeOctet [.off, .waiting, .guiding, .lost, .suspended] g.phase
    ++ placeOctet [.none, .optional, .required] g.mode ++ encInt 4 g.azOffset ++ encInt 4 g.elOffset
    ++ flaggedOctets 2 (g.lastSeq.map (fun q => encNat 2 q.toNat)) ++ encNat 2 g.corrections
    ++ encNat 2 g.saturations ++ yesOctet g.suspendFlag ++ timerOctets g.silenceTimer
    ++ timerOctets g.acquireTimer ++ timerOctets g.lostTimer

/-- R134, section 5. -/
def busOctets (s : State) : List Byte :=
  let a := s.bus.axes.get
  encNat 2 s.bus.seq.toNat ++ flaggedOctets 1 (s.bus.lastDrive.map (placeOctet [.enable, .disable]))
    ++ flaggedOctets 1 (s.bus.lastBrake.map (placeOctet [.release, .engage]))
    ++ placeOctet [.none, .armed, .active] s.bus.override ++ encNat 2 s.bus.corrupted
    ++ axisOctets (fun i => placeOctet [.ok, .silent, .driveFault] (a i).state)
    ++ axisOctets (fun i => encNat 2 (a i).silence)
    ++ axisOctets (fun i => flaggedOctets 4 ((a i).measured.map (encInt 4)))
    ++ axisOctets (fun i => flaggedOctets 4 ((a i).error.map (encInt 4)))
    ++ axisOctets (fun i => flaggedOctets 2 ((a i).echo.map (fun q => encNat 2 q.toNat)))
    ++ axisOctets (fun i => flaggedOctets 1 ((a i).drive.map (placeOctet [.disabled, .enabled, .fault])))
    ++ axisOctets (fun i => flaggedOctets 1 ((a i).brake.map (placeOctet [.released, .engaged])))
    ++ axisOctets (fun i => encNat 2 (a i).stale)

/-- R152, section 6. The octet of the warn arm is the model's choice (log 37). -/
def gustOctets (s : State) : List Byte :=
  let g := s.gust
  let a := g.axes.get
  axisOctets (fun i => encNat 2 (a i).warn) ++ axisOctets (fun i => encNat 2 (a i).l1)
    ++ axisOctets (fun i => encNat 2 (a i).l2) ++ axisOctets (fun i => encNat 2 (a i).release)
    ++ axisOctets (fun i => encNat 2 (a i).runaway) ++ axisOctets (fun i => yesOctet (a i).warnArmed)
    ++ axisOctets (fun i => yesOctet (a i).enabled) ++ placeOctet [.none, .l1] g.level
    ++ placeOctet [.none, .braking, .resting, .checking] g.rest ++ timerOctets g.restTimer
    ++ timerOctets g.checkTimer ++ timerOctets g.decayTimer ++ encNat 2 g.count ++ yesOctet g.stowHeld

/-- R186, section 7. -/
def modeOctets (s : State) : List Byte :=
  let m := s.mode
  placeOctet [.parked, .enabling, .ready, .observing, .parking, .stowing, .stowed, .fault] m.mode
    ++ encNat 6 m.mountTime ++ yesOctet m.timeSet ++ yesOctet m.strapHigh ++ timerOctets m.enablingTimer
    ++ axisOctets (fun i => yesOctet (m.enabled.get i))
    ++ placeOctet [.off, .awaiting, .counting] m.settle
    ++ axisOctets (fun i => encNat 2 (m.settleCount.get i)) ++ timerOctets m.settleDeadline
    ++ placeOctet [.off, .initial, .periodic] m.supervision ++ yesOctet m.toggle
    ++ encNat 1 (m.period / 1000000) ++ timerOctets m.lastCounted ++ encNat 2 m.consecutive
    ++ encNat 2 m.failures ++ timerOctets m.supTimer
    ++ beOctets 1 (m.alerts.supervision.toNat + 2 * m.alerts.gust.toNat + 4 * m.alerts.axis.toNat
        + 8 * m.alerts.stow.toNat)

/-- R168, section 8: a load record as R157 lists its fields, and the last load result, each with a number 0 where it
names none. -/
def tableOctets (s : State) : List Byte :=
  let table := placeOctet [TableId.params, .grid, .mask]
  let status := placeOctet [TableStatus.empty, .loading, .valid, .invalid]
  status s.tables.paramsStatus ++ status s.tables.gridStatus ++ status s.tables.maskStatus
    ++ flaggedOctets 16 (s.tables.load.map (fun r => table r.table ++ encNat 2 r.declared ++ encNat 2 r.stored
        ++ encNat 2 r.excess ++ encNat 2 r.burst ++ encNat 2 r.burstCount ++ encNat 2 r.check.toNat
        ++ (match r.firstError with
          | .none => beOctets 1 0 ++ encNat 2 0
          | .crc n => beOctets 1 1 ++ encNat 2 n
          | .overlong n => beOctets 1 2 ++ encNat 2 n)))
    ++ flaggedOctets 8 (s.tables.lastLoad.map (fun l => table l.table
        ++ (match l.result with
          | .ok => beOctets 1 0 ++ encNat 2 0
          | .crc n => beOctets 1 1 ++ encNat 2 n
          | .overlong n => beOctets 1 2 ++ encNat 2 n
          | .short => beOctets 1 3 ++ encNat 2 0
          | .validation n => beOctets 1 4 ++ encNat 2 n
          | .aborted => beOctets 1 5 ++ encNat 2 0)
        ++ encNat 2 l.stored ++ encNat 2 l.excess))

/-- R198, section 9. That the request's own slot counts as taken in the credit count is the model's reading (log 47). -/
def linkOctets (s : State) : List Byte :=
  let l := s.link
  encNat 2 l.rx.length ++ encNat 2 (8 - l.rx.length) ++ yesOctet l.frameFault ++ encNat 2 l.badFrames
    ++ encNat 2 l.overruns ++ encNat 2 l.events.toNat ++ encNat 2 l.mask.toNat ++ yesOctet l.noticeArmed

/-- R203: the octets of a section by its number, 0 to 9. -/
def sectionOctets : Nat → State → List Byte
  | 0 => sequencerOctets
  | 1 => storeOctets
  | 2 => plannerOctets
  | 3 => trajectoryOctets
  | 4 => guideOctets
  | 5 => busOctets
  | 6 => gustOctets
  | 7 => modeOctets
  | 8 => tableOctets
  | _ => linkOctets

/-! ## Rounding, passes and expiries -/

/-- R1, Nearest: `x` is the whole number nearest to `n / d`, a half rounded away from zero. -/
def IsNearest (x n : Int) (d : Nat) : Prop :=
  2 * (x * d - n).natAbs ≤ d
    ∧ (2 * (x * d - n).natAbs = d → (0 < n → n < x * d) ∧ (n < 0 → x * d < n))

/-- R51, R59: one axis through one pass. `p` and `ps` are its parameters and start point, `toward` the position for a
slew time before, `n` and `w` its passes made and its work before the pass, `n'` and `w'` those after it. -/
def AxisPassed (p : AxisParams) (ps : Int) (toward : Nat → Option Int) (n : Nat) (w : AxisWork) (n' : Nat)
    (w' : AxisWork) : Prop :=
  (∀ before, w = .iterating before → n' = n + 1
      ∧ (toward before = none → w' = .failed .noTrack)
      ∧ ∀ x, toward before = some x →
        let v := slewOver p.vmax.toNat p.amax.toNat (x - ps)
        w' = if ((v.time : Int) - (before : Int)).natAbs ≤ 2000 then .converged v
          else if 6 ≤ n + 1 then .failed .noIntercept
          else .iterating v.time)
    ∧ ((∀ before, w ≠ .iterating before) → n' = n ∧ w' = w)

/-- R128: the sending of a frame turns an axis SILENT: it closes a period without a report, the fourth in a row. -/
def TurnsSilent (s : State) (i : Axis) : Prop :=
  s.bus.lastDrive.isSome = true ∧ (s.bus.axes.get i).heard = false ∧ 3 ≤ (s.bus.axes.get i).silence
    ∧ (s.bus.axes.get i).state = .ok

/-- R80 to R83: an axis that an expiry at `now` evaluates for TRACK or COAST: it follows its target already, or its slew
toward a target is over. -/
def Follows (now : Nat) (a : AxisMotion) : Prop :=
  a.last.isSome = true ∧ (a.motion = .track ∨ a.motion = .coast
    ∨ ∃ p, a.profile = some p ∧ p.follow = .track ∧ p.ts + p.time ≤ now
      ∧ (a.motion = .slew ∨ (p.ts = now ∧ (a.motion = .hold ∨ a.motion = .project))))

/-! ## Chains (R34, R36) -/

/-- R34, R36: a chain once a segment has been accepted for it: the last segment replaced, truncated or followed. -/
def chainWith (chain : List Segment) (g : Segment) : List Segment :=
  match chain.getLast? with
  | none => [g]
  | some l =>
    let h : Segment := { g with poly := {
      az := { g.poly.az with p0 := unwrapTo (segmentAt l .az g.start) g.poly.az.p0 }
      el := g.poly.el
      rot := { g.poly.rot with p0 := unwrapTo (segmentAt l .rot g.start) g.poly.rot.p0 } } }
    if g.start = l.start then chain.dropLast ++ [h]
    else if g.start < l.stop then chain.dropLast ++ [{ l with dur := g.start - l.start }, h]
    else chain ++ [h]

/-- R38: the reply payload of a SEGMENT PUT with the store as it stands in `t`. For an accepted one `t` is the state
after the selection or preemption and its drops, which is the model's reading (DEDUCED, log 40). -/
def segmentCounts (g : Segment) (t : State) : List Byte :=
  beOctets 2 g.target ++ beOctets 2 g.number ++ beOctets 1 (24 - t.store.held.length)
    ++ beOctets 1 (12 - (chainOf t.store.held g.target).length)

/-! ## Laws of every state -/

/-- R179: Mount Time never passes 2^48 − 1. -/
def TimeLaw (s : State) : Prop := s.mode.mountTime ≤ 281474976710655

/-- R193: the latched event set contains no kind that is masked off, its bit of the mask being 0 (log 46). -/
def MaskLaw (s : State) : Prop := s.link.events &&& ~~~s.link.mask = 0

/-- R188, R120: the receive queue and each demand history hold at most 8. -/
def QueueLaw (s : State) : Prop :=
  s.link.rx.length ≤ 8 ∧ ∀ i, (s.bus.axes.get i).history.length ≤ 8

/-- R183: the AXIS cause stands in FAULT, and the STOW cause in STOWING and STOWED. -/
def AlertLaw (s : State) : Prop :=
  (s.mode.mode = .fault → s.mode.alerts.axis = true)
    ∧ ((s.mode.mode = .stowing ∨ s.mode.mode = .stowed) → s.mode.alerts.stow = true)

/-- R26: the records in the Outcome Queue, plus one while an entry is ACTIVE, never exceed 32. -/
def OutcomeLaw (s : State) : Prop :=
  s.seq.outcomes.length + (if s.seq.active.isSome then 1 else 0) ≤ 32

/-- R3: at most 96 entries, no two with the same target id and none with id 0, the URGENT entries ahead of the NORMAL
ones in the queued order. -/
def ListLaw (s : State) : Prop :=
  (listEntries s).length ≤ 96 ∧ ((listEntries s).map Entry.id).Nodup ∧ (∀ e ∈ listEntries s, 1 ≤ e.id)
    ∧ s.seq.queue.Pairwise (fun a b => b.priority = .urgent → a.priority = .urgent)

/-- R31: the segments of one target are in start order with spans that do not overlap. -/
def InOrder (chain : List Segment) : Prop :=
  chain.Pairwise (fun a b => a.start < b.start ∧ a.stop ≤ b.start)

/-- R31: at most 24 segments, at most 12 for any one target, only for targets inside the lookahead window, and each
chain in order. -/
def StoreLaw (s : State) : Prop :=
  s.store.held.length ≤ 24
    ∧ (∀ id, (chainOf s.store.held id).length ≤ 12 ∧ InOrder (chainOf s.store.held id))
    ∧ ∀ g ∈ s.store.held, g.target ∈ windowIds s

/-- The mount is STOWING, STOWED or in FAULT. -/
def StowedOrFault (s : State) : Prop :=
  s.mode.mode = .stowing ∨ s.mode.mode = .stowed ∨ s.mode.mode = .fault

/-- R9, R22, R23: the run state is RUNNING in OBSERVING alone, an entry is ACTIVE in OBSERVING alone, and a phase
stands only while an entry is ACTIVE. -/
def RunLaw (s : State) : Prop :=
  (s.seq.running = true → s.mode.mode = .observing)
    ∧ (s.seq.active.isSome = true → s.mode.mode = .observing)
    ∧ (s.seq.atr.phase ≠ .none → s.seq.active.isSome = true)

/-- R176, R180: the motion settle runs in PARKING and STOWING alone, and supervision in READY and OBSERVING alone. -/
def WatchLaw (s : State) : Prop :=
  (s.mode.settle ≠ .off → s.mode.mode = .parking ∨ s.mode.mode = .stowing)
    ∧ ((s.mode.supervision ≠ .off ∨ s.mode.supTimer.isSome = true) →
        s.mode.mode = .ready ∨ s.mode.mode = .observing)

/-- R144, R182: neither the gust count nor the supervision failure count passes its limit, and at its limit the mount
is STOWING, STOWED or in FAULT. A reset that waits to act was accepted in PARKED or FAULT with the gust count below
5 (R185). -/
def CountLaw (s : State) : Prop :=
  (s.gust.count ≤ 5 ∧ (s.gust.count = 5 → StowedOrFault s))
    ∧ (s.mode.failures ≤ 4 ∧ (s.mode.failures = 4 → StowedOrFault s))
    ∧ (s.link.resetDue = true → (s.mode.mode = .parked ∨ s.mode.mode = .fault) ∧ s.gust.count ≠ 5)

/-- R144, R182 with the laws they rest on. -/
def ModeLaw (s : State) : Prop := RunLaw s ∧ WatchLaw s ∧ CountLaw s

/-- R101: the guide offsets are zero whenever no entry is in the TRACKING phase. -/
def GuideLaw (s : State) : Prop :=
  s.seq.atr.phase ≠ .tracking → s.guide.azOffset = 0 ∧ s.guide.elOffset = 0

/-- R165: outside PARKED the Axis Parameter Set is VALID; in OBSERVING the Horizon Mask is VALID too and no load is
open; a table that is being loaded is LOADING. -/
def TableLaw (s : State) : Prop :=
  (s.mode.mode ≠ .parked → s.tables.paramsStatus = .valid)
    ∧ (s.mode.mode = .observing → s.tables.maskStatus = .valid ∧ s.tables.load = none)
    ∧ (∀ r, s.tables.load = some r → s.tables.status r.table = .loading)

end Sys2Proof.Machine
end

