-- ==== Sys2Proof/Certificates/Slice0/Obligations.lean ====
section
/-! DEFINITION. The statements for the provers. In each of them `advance dt s` is the state `dt` microseconds after `s`,
when the command is taken. -/

open Sys2Proof Sys2Proof.Machine

/-! ## Steps, resets and the time base -/

/-- One step takes the command at the front of the queue and runs it on the state with the queue's rest. -/
def Obligations.StepRunsTheFrontCommand : Prop :=
  ∀ (c : Instr) (rest : List Instr) (s : State), s.pending = c :: rest →
    step s = exec c (s.setPending rest)

/-- The model's choice (logs 2 and 3): on an empty queue a step lets one microsecond pass when no event of the part's
own is due, and otherwise puts one of the due events at the front of the queue and changes nothing else. -/
def Obligations.EmptyQueueStepBringsADueEvent : Prop :=
  ∀ s : State, s.pending = [] →
    (dueEvents s = [] → step s = .next (advance 1 s))
    ∧ (dueEvents s ≠ [] → ∃ c ∈ dueEvents s, ∃ n, step s = .next ((s.setPending [c]).setDraws n))

/-- R28, R49, R71, R73, R100, R118, R135, R153, R169, R184, R185, R199: POWER_ON_RESET completes, with these values in
every unit. The values of the logs 5 and 13 are the model's choice, and that the mask 0xFFFF enables every kind is its
reading (log 46). -/
def Obligations.PowerOnResetSetsEveryUnit : Prop :=
  ∀ (strapHigh : Bool) (s : State), ∃ t, exec (.powerOnReset strapHigh) s = .next t
    ∧ UnitsReset 0 0 t
    ∧ t.gust = ⟨⟨resetGustAxis, resetGustAxis, resetGustAxis⟩, .none, .none, none, none, 0, none, false⟩
    ∧ t.mode = ⟨.parked, 0, false, strapHigh, none, ⟨false, false, false⟩, .off, ⟨0, 0, 0⟩, none, none,
        .off, none, false, 2000000, none, 0, 0, ⟨false, false, false, false⟩⟩
    ∧ t.pending = s.pending ∧ t.draws = s.draws

/-- R185, R151, R169: RESET is accepted in PARKED, and in FAULT while the gust count is not 5; it is answered OK at
once and changes nothing but that the link reset is due. LINK_RESET after that reply has been sent sets every unit, and
keeps Mount Time, the time-set flag, the strap value, the gust count and the decay timer. That the next demand expiry
stays where it was is read from "demand expiries continue at its multiples of 5,000 µs". The activation time of the
active-target record (log 5), and the velocity last sent with the demand time of the last demand (log 13), take values
of the model's own choice, and that the mask 0xFFFF enables every kind is its reading (log 46). -/
def Obligations.AnAcceptedResetIsAnsweredAndThenActs : Prop :=
  (∀ (dt : Nat) (f : Frame) (s : State), Requested 12 f s → f.payload = [] →
      (s.mode.mode = .parked ∨ (s.mode.mode = .fault ∧ s.gust.count ≠ 5)) →
      ∃ t, exec (.reset dt) s = .next t
        ∧ Answered f .ok [] (advance dt s) t
        ∧ t.link.resetDue = true
        ∧ LinkKept (advance dt s) (t.setLink { t.link with resetDue := s.link.resetDue })
        ∧ Latches [] (advance dt s) t ∧ Keeps Part.owners (advance dt s) t)
  ∧ (∀ (dt : Nat) (s : State), s.link.resetDue = true → s.link.outbox.any OutFrame.isReply = false →
        ∃ t, exec (.linkReset dt) s = .next t
          ∧ UnitsReset (advance dt s).now s.traj.nextExpiry t
          ∧ t.gust = ⟨⟨resetGustAxis, resetGustAxis, resetGustAxis⟩, .none, .none, none, none, s.gust.count,
              s.gust.decayTimer, false⟩
          ∧ t.mode = ⟨.parked, (advance dt s).now, s.mode.timeSet, s.mode.strapHigh, none, ⟨false, false, false⟩,
              .off, ⟨0, 0, 0⟩, none, none, .off, none, false, 2000000, none, 0, 0, ⟨false, false, false, false⟩⟩
          ∧ t.pending = s.pending ∧ t.draws = s.draws)

/-- R179, R74, R151: TIME SET in PARKED sets Mount Time and its flag, realigns the demand expiries to the multiples of
5,000 µs of the new time, restarts a running decay timer and clears every track-wait start; outside PARKED it is
refused WRONG_MODE. Mount Time moves on with each command's delay and holds at 2^48 − 1; no demand expiry occurs while
it holds. That MOUNT_TIME_HOLD takes Mount Time there from every state, with no event on the way and nothing else
changed, is the model's choice (DESIGN CHOICE, log 1). -/
def Obligations.MountTimeIsSetInParkedAndHoldsAtItsEnd : Prop :=
  (∀ (dt : Nat) (f : Frame) (s : State), Requested 1 f s → f.payload.length = 6 →
      let v := fieldNat f.payload 0 6
      (s.mode.mode = .parked → ∃ t, exec (.timeSet dt) s = .next t
        ∧ Effect f .ok (beOctets 6 v) [] [.store, .planner, .guide, .bus, .tables] (advance dt s) t
        ∧ t.mode = { s.mode with mountTime := v, timeSet := true }
        ∧ t.traj = { s.traj with nextExpiry := t.traj.nextExpiry }
        ∧ t.traj.nextExpiry % 5000 = 0 ∧ v ≤ t.traj.nextExpiry ∧ t.traj.nextExpiry < v + 5000
        ∧ t.gust = { s.gust with decayTimer := s.gust.decayTimer.map (fun _ => v + 600000000) }
        ∧ t.seq = { s.seq with
            active := s.seq.active.map (fun e => { e with trackWait := none })
            queue := s.seq.queue.map (fun e => { e with trackWait := none }) })
      ∧ (s.mode.mode ≠ .parked → ∃ t, exec (.timeSet dt) s = .next t
        ∧ Effect f .wrongMode [] [] Part.owners (advance dt s) t))
  ∧ ((∀ s : State, ∃ t, exec .mountTimeHold s = .next t
          ∧ t.mode = { s.mode with mountTime := 281474976710655 }
          ∧ Keeps [.link, .seq, .store, .planner, .traj, .guide, .bus, .gust, .tables] s t)
        ∧ (∀ (dt : Nat) (s : State), s.mode.mountTime + dt ≤ 281474976710655 →
            (advance dt s).now = s.mode.mountTime + dt)
        ∧ (∀ (dt : Nat) (s : State), 281474976710655 ≤ s.mode.mountTime + dt →
            (advance dt s).now = 281474976710655 ∧ expiryDue (advance dt s) = false))

/-! ## Laws that every state of a run obeys -/

/-- Every law of a state holds right after power-on reset, whichever level the strap has (log 4: State.reset is the
part strapped low). -/
def Obligations.EveryLawHoldsAtReset : Prop :=
  State.reset = State.powerOn false ∧ ∀ strapHigh : Bool, let s := State.powerOn strapHigh
    TimeLaw s ∧ MaskLaw s ∧ QueueLaw s ∧ AlertLaw s ∧ OutcomeLaw s ∧ ListLaw s ∧ StoreLaw s ∧ ModeLaw s
      ∧ TableLaw s ∧ GuideLaw s

/-- R179, R188, R120, R193, R183: no step takes Mount Time past 2^48 − 1, the receive queue past 8 frames or a demand
history past 8 entries; none leaves a masked kind in the event set; and every step keeps the AXIS cause in FAULT and
the STOW cause in STOWING and STOWED, so that the Mount Alert line is asserted in those modes. That a mask bit of 0 is
a masked kind is the model's reading (log 46). -/
def Obligations.EveryStepKeepsTheLinkAndAlertLaws : Prop :=
  (∀ s t : State, TimeLaw s → QueueLaw s → step s = .next t → TimeLaw t ∧ QueueLaw t)
  ∧ (∀ s t : State, MaskLaw s → step s = .next t → MaskLaw t)
  ∧ (∀ s t : State, AlertLaw s → step s = .next t →
        AlertLaw t ∧ (StowedOrFault t → alertLine t = true))

/-- R3, R26: every step keeps the Night List within 96 entries, without a repeated id, the URGENT region in front; and
no step lets the Outcome Queue, with the reserved slot, pass 32. -/
def Obligations.EveryStepKeepsTheListAndOutcomeLaws : Prop :=
  (∀ s t : State, ListLaw s → step s = .next t → ListLaw t)
  ∧ (∀ s t : State, OutcomeLaw s → step s = .next t → OutcomeLaw t)

/-- R31: every step keeps the Segment Store within its room and its window, with each chain in order. -/
def Obligations.EveryStepKeepsTheSegmentStore : Prop :=
  ∀ s t : State, StoreLaw s → step s = .next t → StoreLaw t

/-- R144, R182: every step keeps the gust count within 5 and the failure count within 4, with the mount STOWING,
STOWED or in FAULT at either limit, together with the laws of run and watch that this rests on. -/
def Obligations.EveryStepKeepsTheStowCounts : Prop :=
  ∀ s t : State, ModeLaw s → step s = .next t → ModeLaw t

/-- R165: every step keeps the tables that a mode needs VALID. -/
def Obligations.EveryStepKeepsTheModesTables : Prop :=
  ∀ s t : State, ModeLaw s → TableLaw s → step s = .next t → TableLaw t

/-- R101: no step leaves a guide offset standing while no entry is in TRACKING. -/
def Obligations.EveryStepKeepsOffsetsZeroOutsideTracking : Prop :=
  ∀ s t : State, GuideLaw s → step s = .next t → GuideLaw t

/-! ## The Mount Link -/

/-- R187, R200, R201: a frame of up to 240 payload octets, with its check and its stuffing as the manual gives them,
is received as the kind, tag and payload it carries. -/
def Obligations.AGoodFrameIsReceivedAsSent : Prop :=
  ∀ (kind tag : Byte) (payload : List Byte), payload.length ≤ 240 →
    receiveFrame (wireOf kind tag payload) = some ⟨kind, tag, payload⟩

/-- R187, R190, R200: a frame whose check differs, one cut short at any octet, one whose length octet passes 240 and
one with bad stuffing before its check is complete are bad: each is discarded without a reply, the bad frame count
rises to at most 65,535, the frame-fault flag is set and FRAME_FAULT latches. That a frame cut before its first octet
counts as bad, and that only the stuffing up to the check counts, is the model's reading (log 33). -/
def Obligations.ABadFrameIsDiscardedAndCounted : Prop :=
  ∀ (dt : Nat) (kind tag : Byte) (payload octets : List Byte) (s : State), payload.length ≤ 240 →
    let body := BitVec.ofNat 8 payload.length :: kind :: tag :: payload
    let whole := body ++ checkOctets (crc16 0xFFFF body)
    ((∃ c : BitVec 16, octets = stuff (body ++ checkOctets c) ∧ c ≠ crc16 0xFFFF body)
      ∨ (∃ n, octets = (wireOf kind tag payload).take n ∧ n < (wireOf kind tag payload).length)
      ∨ (∃ (len : Byte) (rest : List Byte), octets = stuff (len :: rest) ∧ 240 < len.toNat)
      ∨ (∃ (n : Nat) (x : Byte) (rest : List Byte), octets = stuff (whole.take n) ++ 0x7D :: x :: rest
          ∧ n < whole.length ∧ x ≠ 0x5E ∧ x ≠ 0x5D)) →
    ∃ t, exec (.mountLinkFrame dt octets) s = .next t
      ∧ t.link.badFrames = (if s.link.badFrames < 65535 then s.link.badFrames + 1 else 65535)
      ∧ t.link.frameFault = true
      ∧ LinkGrows ((advance dt s).setLink { s.link with badFrames := t.link.badFrames, frameFault := true }) t
      ∧ Latches [.frameFault] (advance dt s) t ∧ Keeps Part.owners (advance dt s) t

/-- R188, R189, R190, R196: a good frame joins the tail of a receive queue with a free slot and changes nothing else;
one that finds 8 frames is discarded as an overrun, counted up to 65,535 and marked. A sent reply frees the slot of
the frame it answers; a sent notice takes none. The frame sent is the first of those built, and nothing else changes:
that built frames wait in one list, in order, is read from R196 (DEDUCED, log 9). -/
def Obligations.FramesTakeAndFreeTheReceiveSlots : Prop :=
  (∀ (dt : Nat) (octets : List Byte) (f : Frame) (s : State), receiveFrame octets = some f →
      (s.link.rx.length < 8 → ∃ t, exec (.mountLinkFrame dt octets) s = .next t
        ∧ t.link = { s.link with rx := s.link.rx ++ [f] } ∧ Keeps Part.owners (advance dt s) t)
      ∧ (8 ≤ s.link.rx.length → ∃ t, exec (.mountLinkFrame dt octets) s = .next t
        ∧ t.link.overruns = (if s.link.overruns < 65535 then s.link.overruns + 1 else 65535)
        ∧ t.link.frameFault = true
        ∧ LinkGrows ((advance dt s).setLink { s.link with overruns := t.link.overruns, frameFault := true }) t
        ∧ Latches [.frameFault] (advance dt s) t ∧ Keeps Part.owners (advance dt s) t))
  ∧ ((∀ (dt : Nat) (tag : Byte) (payload : List Byte) (rest : List OutFrame) (s : State),
        s.link.outbox = .reply tag payload :: rest → ∃ t, exec (.replySent dt) s = .next t
          ∧ t.link = { s.link with rx := s.link.rx.drop 1, outbox := rest, sent := some (.reply tag payload) }
          ∧ Keeps Part.owners (advance dt s) t)
      ∧ (∀ (dt : Nat) (payload : List Byte) (rest : List OutFrame) (s : State),
        s.link.outbox = .notice payload :: rest → ∃ t, exec (.eventNotice dt) s = .next t
          ∧ t.link = { s.link with outbox := rest, sent := some (.notice payload) }
          ∧ Keeps Part.owners (advance dt s) t))

/-- R191, R201: a queued frame whose kind is none of 1 to 28, the part's own kinds 128 and 129 among them, is answered
UNKNOWN_KIND, and a request whose payload length its kind does not allow is answered BAD_LENGTH without a payload;
neither changes anything in any unit. -/
def Obligations.AnUnfitFrameReachesNoOwner : Prop :=
  (∀ (dt : Nat) (f : Frame) (s : State), Requested f.kind.toNat f s →
      (f.kind.toNat = 0 ∨ 28 < f.kind.toNat) →
      ∃ t, exec (.unknownKind dt) s = .next t
        ∧ Effect f .unknownKind [] [] Part.owners (advance dt s) t)
  ∧ (∀ (dt : Nat) (f : Frame) (s : State), ∀ x ∈ requestTable, Requested x.1 f s →
        x.2.2 f.payload.length = false →
        ∃ t, exec (x.2.1 dt) s = .next t
          ∧ Effect f .badLength [] [] Part.owners (advance dt s) t)

/-- R190, R192, R194, R195, R196: EVENT MASK SET replaces the whole mask, removes the kinds the new mask disables and
replies with the mask and the set. EVENT READ CLEAR replies with the event set as it stood and removes the kinds named,
none by an empty payload. Either arms the notice when it empties the set. That a mask bit of 1 enables its kind and one
of 0 disables it is the model's reading (DEDUCED, log 46). -/
def Obligations.TheEventRequestsMaskAndClearTheSet : Prop :=
  (∀ (dt : Nat) (f : Frame) (s : State), Requested 28 f s → f.payload.length = 2 →
      let m := BitVec.ofNat 16 (fieldNat f.payload 0 2)
      let left := s.link.events &&& m
      ∃ t, exec (.eventMaskSet dt) s = .next t
        ∧ t.link = { s.link with
            mask := m, events := left, frameFault := false
            noticeArmed := if s.link.events ≠ 0 ∧ left = 0 then true else s.link.noticeArmed
            outbox := s.link.outbox
              ++ [.reply f.tag (replyOctets .ok (encNat 2 m.toNat ++ encNat 2 left.toNat) (advance dt s) t)] }
        ∧ Keeps Part.owners (advance dt s) t)
  ∧ (∀ (dt : Nat) (f : Frame) (s : State), Requested 27 f s → (f.payload.length = 0 ∨ f.payload.length = 2) →
        let left := s.link.events &&& ~~~BitVec.ofNat 16 (fieldNat f.payload 0 2)
        ∃ t, exec (.eventReadClear dt) s = .next t
          ∧ t.link = { s.link with
              events := left, frameFault := false
              noticeArmed := if s.link.events ≠ 0 ∧ left = 0 then true else s.link.noticeArmed
              outbox := s.link.outbox
                ++ [.reply f.tag (replyOctets .ok (encNat 2 s.link.events.toNat) (advance dt s) t)] }
          ∧ Keeps Part.owners (advance dt s) t
          ∧ (f.payload = [] → left = s.link.events))

/-- R197, R198, R203: CAPABILITY READ replies with the part code 0x0062, a revision octet and the 43 constants of R197
in order, each in 4 octets, 175 octets in all. STATUS READ of a section 0 to 9 replies with that section of the state
it found, and of a higher number is refused RANGE. Neither changes any state. Each section's octets are its fields in
the order in which the status rule of its unit lists them (R29, R50, R72, R99, R116, R134, R152, R186, R168, R198), a
number most significant octet first, a per-axis field AZ, EL, ROT, an optional one and a timer behind a flag octet. The
widths and marks that R203 leaves open are the model's (logs 12, 20, 34, 37, 39 and 41), and so is that section 9's
credit count takes the request's own slot as not yet free (log 47). -/
def Obligations.CapabilityAndStatusReadsReturnTheirRecords : Prop :=
  (∀ (dt : Nat) (f : Frame) (s : State), Requested 25 f s → f.payload = [] →
      ∃ t revision, exec (.capabilityRead dt) s = .next t
        ∧ Effect f .ok ([0x00, 0x62, revision] ++
            [96, 32, 24, 12, 2, 8, 240, 8, 3, 240, 24, 10, 72, 64, 1, 8, 50085,
              5000, 10000, 6, 150, 2000, 2000000, 10000000, 5000000, 20, 3000000, 30000000, 9000000, 4, 3,
              1000, 60000000, 600000000, 5, 2000000, 10000000, 1000000, 2000000, 5000000, 10000000, 4,
              3].flatMap (beOctets 4)) [] Part.owners (advance dt s) t)
  ∧ (∀ (dt n : Nat) (f : Frame) (s : State), Requested 26 f s → f.payload.length = 1 → fieldNat f.payload 0 1 = n →
        (9 < n → ∃ t, exec (.statusRead dt) s = .next t
          ∧ Effect f .range [] [] Part.owners (advance dt s) t)
        ∧ (n ≤ 9 → ∃ t octets, exec (.statusRead dt) s = .next t
          ∧ Effect f .ok octets [] Part.owners (advance dt s) t
          ∧ octets = (match n with
              | 0 => sectionSequencer | 1 => sectionStore | 2 => sectionPlanner | 3 => sectionTrajectory
              | 4 => sectionGuide | 5 => sectionBus | 6 => sectionGust | 7 => sectionMode
              | 8 => sectionTables | _ => sectionLink) (advance dt s)
          ∧ ((n = 1 → ListLaw s ∧ StoreLaw s) → octets = sectionOctets n (advance dt s))))
  ∧ (∀ w n : Nat, n < 256 ^ w → encNat w n = beOctets w n)
  ∧ (∀ v : Int, Fits32 v → encInt 4 v = signedOctets v)
  ∧ (∀ v : Int, -128 ≤ v → v < 128 → encInt 1 v = beOctets 1 (v % 256).toNat)
  ∧ (∀ v : Int, 0 ≤ v → encSpan v = beOctets 6 v.toNat)
  ∧ (∀ w n : Nat, (beOctets w n).length = w
        ∧ ∀ k, k < w → (beOctets w n)[k]? = some (BitVec.ofNat 8 (n / 256 ^ (w - 1 - k))))

/-- R202, R204, R123, R119, R200: the records of ENTRY ADD, SEGMENT PUT and the three tables are read from their octets
as they are laid out, TABLE READ and OUTCOME FETCH write theirs so, and an encoder report of a position that 4 signed
octets hold is received as the drive sent it. Which parameters are signed, and that a peak is not, is the model's
reading of R200 (logs 23 and 38). -/
def Obligations.RecordsAreReadAsLaidOut : Prop :=
  ((∀ e : Entry, EntryFits e → (entryOctets e).length = 28 ∧ readEntry (entryOctets e) = some e)
      ∧ (∀ g : Segment, SegmentFits g → (segmentOctets g).length = 50 ∧ readSegment (segmentOctets g) = g))
  ∧ (∀ r : Report, Fits32 r.measured → receiveReport (wireOfReport r) = some r)
  ∧ (∀ p : AxisParams, ParamsFit p → (paramsOctets p).length = 62 ∧ readParams (paramsOctets p) = p
        ∧ writeParams p = paramsOctets p)
  ∧ (∀ n : GridNode, (∀ i, Fits32 (n.get i)) → (nodeOctets n).length = 12 ∧ readNode (nodeOctets n) = n
        ∧ writeNode n = nodeOctets n)
  ∧ (∀ v : Int, Fits32 v → (signedOctets v).length = 4 ∧ readSector (signedOctets v) = v
        ∧ writeSector v = signedOctets v)
  ∧ (∀ r : OutcomeRec, OutcomeFits r → (outcomeOctets r).length = 50 ∧ writeOutcome r = outcomeOctets r)

/-- R2: a sequence number is later than another exactly when their difference modulo 65,536 lies in 1 to 32,767; the
numbers return from 65,535 to 0, and none is later than itself. -/
def Obligations.SequenceNumbersAreLaterByHalfTheRing : Prop :=
  (∀ new old : BitVec 16, seqLater new old = true ↔
      1 ≤ (((new.toNat : Int) - (old.toNat : Int)) % 65536)
        ∧ (((new.toNat : Int) - (old.toNat : Int)) % 65536) ≤ 32767)
    ∧ (∀ n : BitVec 16, seqLater n n = false ∧ n.toNat ≤ 65535)
    ∧ (BitVec.ofNat 16 65535 + 1 = 0)

/-! ## Mount modes and supervision -/

/-- R170 to R185: the requests of the Mode Controller that a mode, an unset time, a table or an axis forbids, each
answered with the first code of its checks and changing nothing. -/
def Obligations.ForbiddenModeRequestsChangeNothing : Prop :=
  ∀ (dt : Nat) (f : Frame) (s : State), f.payload = [] →
    let ready := s.tables.paramsStatus = .valid ∧ s.tables.maskStatus = .valid ∧ s.tables.load = none
    let axes := ∀ i, (s.bus.axes.get i).state = .ok
    ∀ x ∈ [(3, Instr.unpark dt, ResultCode.wrongMode, s.mode.mode ≠ .parked),
        (3, .unpark dt, .noTime, s.mode.mode = .parked ∧ s.mode.timeSet = false),
        (3, .unpark dt, .notReady, s.mode.mode = .parked ∧ s.mode.timeSet = true ∧ ¬ (ready ∧ axes)),
        (4, .run dt, .wrongMode, s.mode.mode ≠ .ready),
        (4, .run dt, .noTime, s.mode.mode = .ready ∧ s.mode.timeSet = false),
        (4, .run dt, .notReady, s.mode.mode = .ready ∧ s.mode.timeSet = true
          ∧ ¬ (s.tables.maskStatus = .valid ∧ s.tables.load = none)),
        (5, .stop dt, .wrongMode, s.mode.mode ≠ .observing),
        (6, .hold dt, .wrongMode, s.mode.mode ≠ .observing),
        (7, .resume dt, .wrongMode, s.mode.mode ≠ .observing),
        (8, .park dt, .wrongMode, s.mode.mode ≠ .ready ∧ s.mode.mode ≠ .observing),
        (9, .stow dt, .wrongMode, s.mode.mode ≠ .ready ∧ s.mode.mode ≠ .observing),
        (10, .release dt, .wrongMode, s.mode.mode ≠ .stowed),
        (10, .release dt, .notReady, s.mode.mode = .stowed ∧ ¬ axes),
        (11, .faultClear dt, .wrongMode, s.mode.mode ≠ .fault),
        (11, .faultClear dt, .notReady, s.mode.mode = .fault ∧ ¬ axes),
        (12, .reset dt, .wrongMode, (s.mode.mode ≠ .parked ∧ s.mode.mode ≠ .fault)
          ∨ (s.mode.mode = .fault ∧ s.gust.count = 5))],
      Requested x.1 f s → x.2.2.2 →
      ∃ t, exec x.2.1 s = .next t ∧ Effect f x.2.2.1 [] [] Part.owners (advance dt s) t

/-- R171, R170, R76, R178, R150: UNPARK in PARKED, with the time set, the tables that R165 asks for VALID, no load
open and every axis OK, makes the mode ENABLING with a measured-position hold, clear marks and a timer of 2 s. RELEASE
in STOWED does so too, with the gust count, the failure count and the consecutive count at 0 and the GUST, STOW and
SUPERVISION causes clear. FAULT CLEAR in FAULT clears the AXIS cause and makes the mode STOWED, with the STOW cause,
when the gust count is 5 or the failure count is 4, and PARKED, without the SUPERVISION and STOW causes, otherwise. -/
def Obligations.LeavingTheDisabledModes : Prop :=
  (∀ (dt : Nat) (f : Frame) (s : State), Requested 3 f s → f.payload = [] → s.mode.mode = .parked →
      s.mode.timeSet = true → s.tables.paramsStatus = .valid → s.tables.maskStatus = .valid →
      s.tables.load = none → (∀ i, (s.bus.axes.get i).state = .ok) →
      ∃ t, exec (.unpark dt) s = .next t
        ∧ Effect f .ok [] [.modeChanged] [.seq, .store, .planner, .guide, .bus, .gust, .tables] (advance dt s) t
        ∧ t.mode = { (advance dt s).mode with
            mode := .enabling, enabled := ⟨false, false, false⟩
            enablingTimer := some ((advance dt s).now + 2000000) }
        ∧ AllHeld (advance dt s) t)
  ∧ (∀ (dt : Nat) (f : Frame) (s : State), Requested 10 f s → f.payload = [] → s.mode.mode = .stowed →
        (∀ i, (s.bus.axes.get i).state = .ok) →
        ∃ t, exec (.release dt) s = .next t
          ∧ Effect f .ok [] [.modeChanged] [.seq, .store, .planner, .guide, .bus, .tables] (advance dt s) t
          ∧ t.mode = { (advance dt s).mode with
              mode := .enabling, failures := 0, consecutive := 0, enabled := ⟨false, false, false⟩
              enablingTimer := some ((advance dt s).now + 2000000)
              alerts := { s.mode.alerts with gust := false, stow := false, supervision := false } }
          ∧ t.gust = { s.gust with count := 0, decayTimer := none, stowHeld := false }
          ∧ AllHeld (advance dt s) t)
  ∧ (∀ (dt : Nat) (f : Frame) (s : State), Requested 11 f s → f.payload = [] → s.mode.mode = .fault →
        (∀ i, (s.bus.axes.get i).state = .ok) → s.gust.level = .none → s.gust.rest = .none →
        ∃ t, exec (.faultClear dt) s = .next t
          ∧ Effect f .ok [] [.modeChanged] [.seq, .store, .planner, .traj, .guide, .bus, .gust, .tables]
              (advance dt s) t
          ∧ t.mode = (if s.gust.count = 5 ∨ s.mode.failures = 4 then
              { (advance dt s).mode with
                mode := .stowed, alerts := { s.mode.alerts with axis := false, stow := true } }
            else
              { (advance dt s).mode with
                mode := .parked
                alerts := { s.mode.alerts with axis := false, stow := false, supervision := false } }))

/-- R173, R170, R9, R10: RUN in READY, with the time set, the mask VALID and no load open, makes the mode OBSERVING
and the run state RUNNING, and takes selection: the units are those of the selection from the running state. HOLD in
OBSERVING places OPERATOR in the hold-reason set, and RESUME removes it; where that empties the set, selection is
taken, or preemption examined while an entry is ACTIVE. Where selection and preemption have nothing to take, nothing
else changes. -/
def Obligations.TheRunBeginsAndIsHeldAndResumed : Prop :=
  (∀ (dt : Nat) (f : Frame) (s : State), Requested 4 f s → f.payload = [] → s.mode.mode = .ready →
      s.mode.timeSet = true → s.tables.maskStatus = .valid → s.tables.load = none →
      ∃ t u, exec (.run dt) s = .next t
        ∧ Answered f .ok [] (advance dt s) t ∧ LinkKept (advance dt s) t
        ∧ Event [.modeChanged] [.store, .planner, .traj, .guide, .bus, .gust, .tables] (advance dt s) u
        ∧ u.mode = { (advance dt s).mode with mode := .observing } ∧ u.seq = { s.seq with running := true }
        ∧ UnitsAre Part.owners (select u) t
        ∧ t.mode = u.mode ∧ t.seq.running = true ∧ Keeps [.bus, .gust, .tables] (advance dt s) t
        ∧ ((s.seq.holds.isEmpty = false ∨ s.seq.active.isSome = true ∨ s.seq.queue = []) →
            Latches [.modeChanged] (advance dt s) t
              ∧ Keeps [.store, .planner, .traj, .guide] (advance dt s) t
              ∧ t.seq = { s.seq with running := true }))
  ∧ (∀ (dt : Nat) (f : Frame) (s : State), f.payload = [] → s.mode.mode = .observing →
        (Requested 6 f s → ∃ t, exec (.hold dt) s = .next t
          ∧ Effect f .ok [] [] [.store, .planner, .traj, .guide, .bus, .gust, .mode, .tables] (advance dt s) t
          ∧ t.seq = { s.seq with holds := { s.seq.holds with operator := true } })
        ∧ (Requested 7 f s → ∃ t, exec (.resume dt) s = .next t
          ∧ Answered f .ok [] (advance dt s) t ∧ LinkKept (advance dt s) t
          ∧ HoldCleared .operator Part.owners (advance dt s) t
          ∧ Keeps [.bus, .gust, .mode, .tables] (advance dt s) t
          ∧ t.seq.holds.operator = false
          ∧ (s.seq.holds.operator = false ∨ s.seq.running = false
                ∨ (s.seq.holds.outcomeFull || s.seq.holds.link || s.seq.holds.gustL1 || s.seq.holds.gustRest) = true →
              Latches [] (advance dt s) t ∧ Keeps [.store, .planner, .traj, .guide] (advance dt s) t
                ∧ t.seq = { s.seq with holds := { s.seq.holds with operator := false } })))

/-- R173, R170, R148, R76: STOP in OBSERVING makes the mode READY and the run state STOPPED, ends any observation under
way STOPPED, and brakes every moving axis. During BRAKING the gust rest ends; during RESTING every axis takes a
measured-position hold, the marks are cleared and the check begins (R148, R76). -/
def Obligations.StopEndsTheRun : Prop :=
  ∀ (dt : Nat) (f : Frame) (s : State), Requested 5 f s → f.payload = [] → s.mode.mode = .observing →
    RunLaw s → ListLaw s →
    ∃ t, exec (.stop dt) s = .next t
      ∧ Effect f .ok [] (.modeChanged :: if s.seq.active.isSome then endKinds s else [])
          [.tables] (advance dt s) t
      ∧ t.mode.mode = .ready ∧ t.seq.running = false ∧ t.seq.active = none ∧ t.seq.atr.phase = .none
      ∧ t.seq.holds.operator = false ∧ t.seq.queue = s.seq.queue
      ∧ t.seq.outcomes = s.seq.outcomes
          ++ (if s.seq.active.isSome then [endRecord .stopped false s.seq.atr (advance dt s).now] else [])
      ∧ (s.gust.rest ≠ .resting → AllBraked (advance dt s) t)
      ∧ (s.gust.rest = .none ∨ s.gust.rest = .checking →
          t.gust = s.gust ∧ t.bus = s.bus ∧ t.mode = { (advance dt s).mode with mode := .ready })
      ∧ (s.gust.rest = .braking → t.gust = { s.gust with rest := .none, restTimer := none, checkTimer := none }
          ∧ t.bus = { s.bus with override := .none } ∧ t.seq.holds.gustRest = false
          ∧ t.mode.alerts.gust = false)
      ∧ (s.gust.rest = .resting → AllHeld (advance dt s) t
          ∧ t.bus = { s.bus with override := .none } ∧ t.mode = { (advance dt s).mode with mode := .ready }
          ∧ t.gust = { s.gust with
              axes := s.gust.axes.map (fun a => { a with enabled := false })
              restTimer := none, checkTimer := some ((advance dt s).now + 2000000), rest := .checking })

/-- R174, R175, R170, R54, R148: PARK and STOW in READY and OBSERVING make the mode PARKING and STOWING, stop the run,
end any observation under way STOPPED and request their plan; PARK's projects every moving axis, STOW's projects EL
and brakes AZ and ROT, and STOW sets the STOW cause. -/
def Obligations.ParkAndStowBeginTheirMotions : Prop :=
  (∀ (dt : Nat) (f : Frame) (s : State), Requested 8 f s → f.payload = [] →
      (s.mode.mode = .ready ∨ s.mode.mode = .observing) → RunLaw s → ListLaw s →
      ∃ t, exec (.park dt) s = .next t
        ∧ Effect f .ok [] (.modeChanged :: if s.seq.active.isSome then endKinds s else [])
            [.tables] (advance dt s) t
        ∧ MotionBegun .park .parking (advance dt s) t)
  ∧ (∀ (dt : Nat) (f : Frame) (s : State), Requested 9 f s → f.payload = [] →
        (s.mode.mode = .ready ∨ s.mode.mode = .observing) → RunLaw s → ListLaw s →
        ∃ t, exec (.stow dt) s = .next t
          ∧ Effect f .ok [] (.modeChanged :: if s.seq.active.isSome then endKinds s else [])
              [.tables] (advance dt s) t
          ∧ MotionBegun .stow .stowing (advance dt s) t ∧ t.mode.alerts.stow = true)

/-- R181, R10: a KEEPALIVE is refused RANGE for a toggle or a period choice outside its set and STALE for a repeated
toggle under supervision, and is accepted without effect while supervision is OFF. One in range, of the other toggle
and not in the first quarter of the period, is counted: the supervision fields take their new values, LINK leaves the
hold-reason set, and the second in a row clears the failure count and the SUPERVISION cause. Where LINK was the last
reason in RUNNING, selection is taken, or preemption examined while an entry is ACTIVE; where the set does not empty by
it, nothing else changes. -/
def Obligations.KeepalivesAreCountedOrChangeNothing : Prop :=
  (∀ (dt toggle choice : Nat) (f : Frame) (s : State), Requested 2 f s → f.payload.length = 2 →
      fieldNat f.payload 0 1 = toggle → fieldNat f.payload 1 1 = choice →
      let inRange := (toggle = 0 ∨ toggle = 1) ∧ (choice = 1 ∨ choice = 2 ∨ choice = 5 ∨ choice = 10)
      let reply := encNat 1 s.mode.supervision.code ++ encFlag s.mode.toggle
        ++ encNat 1 (s.mode.period / 1000000) ++ encNat 1 s.mode.failures
        ++ encNat 6 (s.mode.supTimer.getD 0)
      ∀ x ∈ [(ResultCode.range, ¬ inRange), (.ok, inRange ∧ s.mode.supervision = .off),
          (.stale, inRange ∧ s.mode.supervision ≠ .off ∧ (s.mode.toggle = true ↔ toggle = 1))],
        x.2 → ∃ t, exec (.keepalive dt) s = .next t ∧ Effect f x.1 reply [] Part.owners (advance dt s) t)
  ∧ (∀ (dt choice : Nat) (toggle : Bool) (f : Frame) (s : State), Requested 2 f s → f.payload.length = 2 →
        fieldNat f.payload 0 1 = toggle.toNat → fieldNat f.payload 1 1 = choice →
        (choice = 1 ∨ choice = 2 ∨ choice = 5 ∨ choice = 10) → toggle ≠ s.mode.toggle →
        (s.mode.supervision = .initial
          ∨ (s.mode.supervision = .periodic
            ∧ ∀ last, s.mode.lastCounted = some last → s.mode.period / 4 ≤ (advance dt s).now - last)) →
        let m := (advance dt s).mode
        let counted := { m with
          supervision := .periodic, toggle := toggle, period := choice * 1000000
          lastCounted := some m.mountTime, supTimer := some (m.mountTime + choice * 1000000) }
        ∃ t, exec (.keepalive dt) s = .next t
          ∧ Answered f .ok (encNat 1 2 ++ encFlag toggle ++ encNat 1 choice ++ encNat 1 t.mode.failures
              ++ encNat 6 (m.mountTime + choice * 1000000)) (advance dt s) t
          ∧ LinkKept (advance dt s) t ∧ Keeps [.bus, .gust, .tables] (advance dt s) t
          ∧ t.mode = { counted with
              consecutive := min (m.consecutive + 1) 2
              failures := if 1 ≤ m.consecutive then 0 else m.failures
              alerts := if 1 ≤ m.consecutive then { m.alerts with supervision := false } else m.alerts }
          ∧ HoldCleared .link [.seq, .store, .planner, .traj, .guide, .bus, .gust, .tables]
              ((advance dt s).setMode counted) t
          ∧ t.seq.holds.link = false
          ∧ (s.seq.holds.link = false ∨ s.seq.running = false
                ∨ (s.seq.holds.outcomeFull || s.seq.holds.operator || s.seq.holds.gustL1 || s.seq.holds.gustRest)
                  = true →
              Latches [] (advance dt s) t ∧ Keeps [.store, .planner, .traj, .guide] (advance dt s) t
                ∧ t.seq = { s.seq with holds := { s.seq.holds with link := false } }))

/-- R181, R182: the supervision timer's expiry, and a KEEPALIVE in range and of the other toggle in the first quarter
of the period, refused EARLY, with a failure count below 3 make a failure: the count rises by one, LINK and the
SUPERVISION cause are set, SUPERVISION_FAIL latches, and INITIAL begins again for 10 s with P as it stood. -/
def Obligations.SupervisionFailuresHoldTheList : Prop :=
  (∀ (dt e : Nat) (s : State), s.mode.supTimer = some e → e ≤ (advance dt s).now → s.mode.failures < 3 →
      ∃ t, exec (.supervisionTimer dt) s = .next t
        ∧ Event [.supervisionFail] [.store, .planner, .traj, .guide, .bus, .gust, .tables] (advance dt s) t
        ∧ t.seq = { s.seq with holds := { s.seq.holds with link := true } }
        ∧ t.mode = { (advance dt s).mode with
            failures := s.mode.failures + 1, supervision := .initial, toggle := false, consecutive := 0
            lastCounted := none, supTimer := some ((advance dt s).now + 10000000)
            alerts := { s.mode.alerts with supervision := true } })
  ∧ (∀ (dt choice last : Nat) (toggle : Bool) (f : Frame) (s : State), Requested 2 f s → f.payload.length = 2 →
        fieldNat f.payload 0 1 = toggle.toNat → fieldNat f.payload 1 1 = choice →
        (choice = 1 ∨ choice = 2 ∨ choice = 5 ∨ choice = 10) → toggle ≠ s.mode.toggle →
        s.mode.supervision = .periodic → s.mode.lastCounted = some last →
        (advance dt s).now - last < s.mode.period / 4 → s.mode.failures < 3 →
        ∃ t, exec (.keepalive dt) s = .next t
          ∧ Effect f .early (encNat 1 1 ++ encFlag false ++ encNat 1 (s.mode.period / 1000000)
              ++ encNat 1 (s.mode.failures + 1) ++ encNat 6 ((advance dt s).now + 10000000))
              [.supervisionFail] [.store, .planner, .traj, .guide, .bus, .gust, .tables] (advance dt s) t
          ∧ t.seq = { s.seq with holds := { s.seq.holds with link := true } }
          ∧ t.mode = { (advance dt s).mode with
              failures := s.mode.failures + 1, supervision := .initial, toggle := false, consecutive := 0
              lastCounted := none, supTimer := some ((advance dt s).now + 10000000)
              alerts := { s.mode.alerts with supervision := true } })

/-- R181, R182, R175: the failure that brings the failure count to 4, at the supervision timer's expiry or at a
KEEPALIVE refused EARLY in READY or OBSERVING, stows the mount, and the change of mode turns supervision OFF. The reply
of the KEEPALIVE shows the fields as the stow leaves them. -/
def Obligations.TheFourthFailureStows : Prop :=
  (∀ (dt e : Nat) (s : State), s.mode.supTimer = some e → e ≤ (advance dt s).now → s.mode.failures = 3 →
    (s.mode.mode = .ready ∨ s.mode.mode = .observing) → RunLaw s → ListLaw s →
    ∃ t, exec (.supervisionTimer dt) s = .next t
      ∧ Event (.supervisionFail :: .modeChanged :: if s.seq.active.isSome then endKinds s else [])
          [.tables] (advance dt s) t
      ∧ MotionBegun .stow .stowing (advance dt s) t
      ∧ t.mode.failures = 4 ∧ t.mode.alerts.stow = true ∧ t.mode.alerts.supervision = true
      ∧ t.seq.holds.link = true)
  ∧ (∀ (dt choice last : Nat) (toggle : Bool) (f : Frame) (s : State), Requested 2 f s → f.payload.length = 2 →
        fieldNat f.payload 0 1 = toggle.toNat → fieldNat f.payload 1 1 = choice →
        (choice = 1 ∨ choice = 2 ∨ choice = 5 ∨ choice = 10) → toggle ≠ s.mode.toggle →
        s.mode.supervision = .periodic → s.mode.lastCounted = some last →
        (advance dt s).now - last < s.mode.period / 4 → s.mode.failures = 3 →
        (s.mode.mode = .ready ∨ s.mode.mode = .observing) → RunLaw s → ListLaw s →
        ∃ t, exec (.keepalive dt) s = .next t
          ∧ Effect f .early (encNat 1 0 ++ encFlag false ++ encNat 1 (s.mode.period / 1000000) ++ encNat 1 4
              ++ encNat 6 0)
              (.supervisionFail :: .modeChanged :: if s.seq.active.isSome then endKinds s else [])
              [.tables] (advance dt s) t
          ∧ MotionBegun .stow .stowing (advance dt s) t
          ∧ t.mode.toggle = false ∧ t.mode.consecutive = 0 ∧ t.mode.period = s.mode.period
          ∧ t.mode.failures = 4 ∧ t.mode.alerts.stow = true ∧ t.mode.alerts.supervision = true
          ∧ t.seq.holds.link = true)

/-- R177, R170, R172, R176, R147: the expiry of the enabling timer, of the motion settle deadline or of the check
timer of a gust rest takes the mount from an enabled mode into FAULT: the AXIS cause is set, supervision is OFF, level
1 and any rest end, the run is stopped, and an observation under way ends FAULT. -/
def Obligations.AnExpiredWatchEntersFault : Prop :=
  ∀ (dt e : Nat) (s : State),
    ∀ x ∈ [(s.mode.enablingTimer, Instr.enablingTimer dt, Mode.enabling),
        (s.mode.settleDeadline, .motionSettleDeadline dt, .parking),
        (s.mode.settleDeadline, .motionSettleDeadline dt, .stowing),
        (s.gust.checkTimer, .checkTimer dt, .ready), (s.gust.checkTimer, .checkTimer dt, .observing),
        (s.gust.checkTimer, .checkTimer dt, .parking), (s.gust.checkTimer, .checkTimer dt, .stowing)],
      x.1 = some e → e ≤ (advance dt s).now → s.mode.mode = x.2.2 → RunLaw s →
      ∃ t, exec x.2.1 s = .next t
        ∧ LinkGrows (advance dt s) t
        ∧ t.link.events &&& (s.link.mask &&& EventKind.modeChanged.word)
            = s.link.mask &&& EventKind.modeChanged.word
        ∧ t.tables = s.tables ∧ t.mode.mode = .fault ∧ t.mode.alerts.axis = true
        ∧ (s.mode.mode = .enabling → t.mode.enablingTimer = none)
        ∧ (s.mode.mode = .parking ∨ s.mode.mode = .stowing →
            t.mode.settle = .off ∧ t.mode.settleDeadline = none)
        ∧ (s.mode.mode = .ready ∨ s.mode.mode = .observing →
            t.mode.supervision = .off ∧ t.mode.supTimer = none)
        ∧ t.gust.level = .none ∧ t.gust.rest = .none
        ∧ t.seq.running = false ∧ t.seq.active = none
        ∧ t.seq.outcomes = s.seq.outcomes
          ++ (if s.seq.active.isSome then [endRecord .fault false s.seq.atr (advance dt s).now] else [])

/-! ## The Night List and the Sequencer -/

/-- R11 to R17, R25, R93: selection takes the head through its steps: an outcome slot, its not-after, its not-before,
its first segment, and its activation, at which every axis's consecutive clamp count is 0. A skip writes its record and
begins again with the next head. That a selection stops the track-wait timer with the not-before and deadline timers as
it begins is read from R11 (DEDUCED, log 17), and that no timer runs in a stop on a full Outcome Queue is the model's
choice (DESIGN CHOICE, log 35). -/
def Obligations.SelectionTakesTheHeadThroughItsSteps : Prop :=
  ∀ (e : Entry) (rest : List Entry) (s : State), s.seq.running = true → s.seq.holds.isEmpty = true →
    s.seq.active = none → s.seq.queue = e :: rest →
    let others := [Part.link, .store, .planner, .traj, .guide, .bus, .gust, .mode, .tables]
    let start := e.trackWait.getD s.now
    if 32 ≤ s.seq.outcomes.length then
      (select s).seq = { waitsStopped s.seq with holds := { s.seq.holds with outcomeFull := true } }
        ∧ Keeps others s (select s)
    else if ∃ d, e.notAfter = some d ∧ d ≤ s.now then
      ∃ t, Skipped .expired e rest s t ∧ select s = select t
    else if ∃ b, e.notBefore = some b ∧ s.now < b then
      (select s).seq = { waitsStopped s.seq with notBeforeTimer := e.notBefore, deadlineTimer := e.notAfter }
        ∧ Keeps others s (select s)
    else if ∃ g ∈ s.store.held, g.target = e.id then Activated e rest s (select s)
    else if start + 5000000 ≤ s.now then ∃ t, Skipped .noTrack e rest s t ∧ select s = select t
    else
      (select s).seq = { waitsStopped s.seq with
          queue := { e with trackWait := some start } :: rest
          deadlineTimer := e.notAfter, trackWaitTimer := some (start + 5000000) }
        ∧ Keeps others s (select s)

/-- R9, R13, R14, R15 (with log 17 where selection begins): the expiry of a wait timer stops it; with the run stopped or
a hold reason standing it does nothing else, and with no entry ACTIVE it takes selection. -/
def Obligations.WaitTimersTakeSelection : Prop :=
  ∀ (dt e : Nat) (s : State),
    ∀ x ∈ [(s.seq.notBeforeTimer, Instr.notBeforeTimer dt, { s.seq with notBeforeTimer := none }),
        (s.seq.deadlineTimer, .deadlineTimer dt, { s.seq with deadlineTimer := none }),
        (s.seq.trackWaitTimer, .trackWaitTimer dt, { s.seq with trackWaitTimer := none })],
      x.1 = some e → e ≤ (advance dt s).now →
      ((s.seq.running = false ∨ s.seq.holds.isEmpty = false) → ∃ t, exec x.2.1 s = .next t
        ∧ t.seq = x.2.2
        ∧ Keeps [.link, .store, .planner, .traj, .guide, .bus, .gust, .mode, .tables] (advance dt s) t)
      ∧ (s.seq.running = true → s.seq.holds.isEmpty = true → s.seq.active = none →
        exec x.2.1 s = .next (select ((advance dt s).setSeq x.2.2)))

/-- R24, R23, R25: at the expiry of the not-before timer of an URGENT head with a segment, a NORMAL preemptible
observation ends PREEMPTED and, where an outcome slot is left and the head's not-after has not come, the head is
activated at once. The displaced entry returns directly behind the URGENT entries when the requeue rule applies, with
the dwell it still lacks, and leaves the list otherwise. The expiry examines preemption, and an examination that finds
its conditions not met changes nothing. -/
def Obligations.AnUrgentHeadPreempts : Prop :=
  (∀ (dt d : Nat) (e h : Entry) (rest : List Entry) (s : State), s.seq.notBeforeTimer = some d →
    d ≤ (advance dt s).now → s.seq.running = true → s.seq.holds.isEmpty = true → s.seq.active = some e →
    s.seq.queue = h :: rest → h.priority = .urgent →
    (∀ b, h.notBefore = some b → b ≤ (advance dt s).now) →
    (∀ a, h.notAfter = some a → (advance dt s).now < a) →
    (∃ g ∈ s.store.held, g.target = h.id) → e.priority = .normal → e.preemptible = true →
    s.seq.atr.phase ≠ .none → s.seq.outcomes.length < 31 → ListLaw s →
    let now := (advance dt s).now
    let tracked := trackedAt s.seq.atr now
    ∃ t urgent normal, exec (.notBeforeTimer dt) s = .next t
      ∧ LinkGrows (advance dt s) t ∧ Keeps [.bus, .gust, .mode, .tables] (advance dt s) t
      ∧ t.seq.active = some h ∧ t.seq.atr.target = h.id ∧ t.seq.atr.phase = .planning
      ∧ rest = urgent ++ normal ∧ (∀ x ∈ urgent, x.priority = .urgent) ∧ (∀ x ∈ normal, x.priority = .normal)
      ∧ (Requeues e tracked →
          t.seq.queue = urgent ++ { e with dwell := e.dwell - tracked, requeues := e.requeues + 1 } :: normal
          ∧ t.seq.outcomes = s.seq.outcomes ++ [endRecord .preempted true s.seq.atr now])
      ∧ (¬ Requeues e tracked → t.seq.queue = rest
          ∧ t.seq.outcomes = s.seq.outcomes ++ [endRecord .preempted false s.seq.atr now]))
  ∧ (∀ (dt d : Nat) (s : State), s.seq.notBeforeTimer = some d → d ≤ (advance dt s).now → s.seq.running = true →
        s.seq.holds.isEmpty = true → s.seq.active.isSome = true →
        exec (.notBeforeTimer dt) s
          = .next (examinePreemption ((advance dt s).setSeq { s.seq with notBeforeTimer := none })))
  ∧ (∀ s : State, (s.seq.active = none ∨ s.seq.queue = []
          ∨ ∃ e h rest, s.seq.active = some e ∧ s.seq.queue = h :: rest ∧ ¬ Preempts e h s) →
        examinePreemption s = s)

/-- R6, R8, R4, R5: an ENTRY ADD in range, of an id not in the list, with room in it, is accepted and the entry placed:
an URGENT one directly behind the last QUEUED URGENT entry and a NORMAL one at the tail; the segments of an entry
pushed out of the window are dropped. While the head stays its timers run on, a due one to its expiry (R14); a new head
stops them (R11), and while an entry is ACTIVE the not-before timer is that of the new head (R14). In RUNNING selection
is then taken, or, while an entry is ACTIVE, preemption examined for an URGENT entry that has become the head. That the
reply carries the position at which the entry was placed, and that the window is compared before the selection, is read
by inference (log 15). -/
def Obligations.EntryAddPlacesTheEntry : Prop :=
  ∀ (dt : Nat) (e : Entry) (f : Frame) (s : State), Requested 13 f s → f.payload.length = 28 →
    readEntry f.payload = some e → e.id ≠ 0 → 1000000 ≤ e.dwell → e.dwell ≤ 3600000000 →
    (∀ b a, e.notBefore = some b → e.notAfter = some a → b < a) →
    (e.requeue = true → ∃ m, e.minDwell = some m ∧ 1000000 ≤ m ∧ m ≤ e.dwell) →
    (e.requeue = false → e.minDwell = none) →
    (∀ x ∈ listEntries s, x.id ≠ e.id) → (listEntries s).length < 96 → ListLaw s →
    ∃ t u front back, exec (.entryAdd dt) s = .next t
      ∧ s.seq.queue = front ++ back
      ∧ (e.priority = .urgent →
          (∀ x ∈ front, x.priority = .urgent) ∧ (∀ x ∈ back, x.priority = .normal))
      ∧ (e.priority = .normal → back = [])
      ∧ Answered f .ok (beOctets 1 (s.seq.active.toList.length + front.length)) (advance dt s) t
      ∧ LinkKept (advance dt s) t
      ∧ Event (if (windowIds s).all (fun id => (windowIds u).contains id) then [] else [.segmentsDropped])
          [.planner, .traj, .guide, .bus, .gust, .mode, .tables] (advance dt s) u
      ∧ u.seq = { s.seq with
          queue := front ++ e :: back
          notBeforeTimer :=
            if front ≠ [] then s.seq.notBeforeTimer
            else if s.seq.active.isSome = true ∧ s.seq.running = true then
              preemptionTimer (e :: back) (advance dt s).now
            else none
          deadlineTimer := if front = [] then none else s.seq.deadlineTimer }
      ∧ u.store = { s.store with held := s.store.held.filter (fun g =>
          !((windowIds s).contains g.target && !(windowIds u).contains g.target)) }
      ∧ (s.seq.running = false ∨ s.seq.holds.isEmpty = false → UnitsAre Part.owners u t)
      ∧ (s.seq.running = true → s.seq.active = none → UnitsAre Part.owners (select u) t)
      ∧ (s.seq.running = true → s.seq.active.isSome = true →
          UnitsAre Part.owners (if front = [] ∧ e.priority = .urgent then examinePreemption u else u) t)

/-- R6, R32 to R38, R105, R200: an ENTRY ADD, a SEGMENT PUT and a GUIDE CORRECTION are refused with the code of the
first check they fail, in the manual's order, with the reply fields of a refusal, and change nothing. -/
def Obligations.RefusedListRequestsChangeNothing : Prop :=
  (∀ (dt : Nat) (f : Frame) (s : State), Requested 13 f s → f.payload.length = 28 →
      let good := fun e : Entry => e.id ≠ 0 ∧ 1000000 ≤ e.dwell ∧ e.dwell ≤ 3600000000
        ∧ (∀ b a, e.notBefore = some b → e.notAfter = some a → b < a)
        ∧ (e.requeue = true → ∃ m, e.minDwell = some m ∧ 1000000 ≤ m ∧ m ≤ e.dwell)
        ∧ (e.requeue = false → e.minDwell = none)
      let refused := fun code => ∃ t, exec (.entryAdd dt) s = .next t
        ∧ Effect f code [] [] Part.owners (advance dt s) t
      ((∀ e, readEntry f.payload = some e → ¬ good e) → refused .range)
      ∧ (∀ e, readEntry f.payload = some e → good e → (∃ x ∈ listEntries s, x.id = e.id) → refused .duplicate)
      ∧ (∀ e, readEntry f.payload = some e → good e → (∀ x ∈ listEntries s, x.id ≠ e.id) →
          96 ≤ (listEntries s).length → refused .full))
  ∧ (∀ (dt : Nat) (a e r : AxisParams) (f : Frame) (s : State), Requested 17 f s → f.payload.length = 50 →
        let g := readSegment f.payload
        let chain := chainOf s.store.held g.target
        let within := fun (p : AxisParams) (c : Poly) =>
          (c.v.natAbs : Int) ≤ p.trackRate * 1000 ∧ (c.a.natAbs : Int) ≤ p.amax * 1000
        let inRange := 50000 ≤ g.dur ∧ g.dur ≤ 120000000 ∧ g.start + g.dur < 2 ^ 48
          ∧ 0 ≤ g.poly.az.p0 ∧ g.poly.az.p0 < 1296000000 ∧ 0 ≤ g.poly.rot.p0 ∧ g.poly.rot.p0 < 1296000000
          ∧ -18000000 ≤ g.poly.el.p0 ∧ g.poly.el.p0 ≤ 324000000
        (s.tables.paramsStatus = .valid → s.tables.params = [a, e, r]) →
        ∀ (before after : List (Prop × ResultCode)) (failed : Prop) (code : ResultCode),
          [(¬ inRange, ResultCode.range), (s.tables.paramsStatus ≠ .valid, .notReady),
            (¬ (within a g.poly.az ∧ within e g.poly.el ∧ within r g.poly.rot), .rate),
            (∀ x ∈ listEntries s, x.id ≠ g.target, .noSuchTarget), (g.target ∉ windowIds s, .notNear),
            (g.start + g.dur ≤ (advance dt s).now, .expired),
            (∃ l, chain.getLast? = some l ∧ g.start < l.start, .outOfOrder),
            ((∀ l, chain.getLast? = some l → l.start ≠ g.start)
              ∧ (24 ≤ s.store.held.length ∨ 12 ≤ chain.length), .full)]
            = before ++ (failed, code) :: after →
          (∀ x ∈ before, ¬ x.1) → failed →
          ∃ t, exec (.segmentPut dt) s = .next t
            ∧ Effect f code (segmentCounts g t) [] Part.owners (advance dt s) t)
  ∧ (∀ (dt : Nat) (f : Frame) (s : State), Requested 18 f s → f.payload.length = 12 →
        let target := fieldNat f.payload 0 2
        let seq := BitVec.ofNat 16 (fieldNat f.payload 2 2)
        let az := fieldInt f.payload 4 4
        let el := fieldInt f.payload 8 4
        ∀ (before after : List (Prop × ResultCode)) (failed : Prop) (code : ResultCode),
          [(target = 0 ∨ az < -60000 ∨ 60000 < az ∨ el < -60000 ∨ 60000 < el, ResultCode.range),
            (∀ e, s.seq.active = some e → e.id ≠ target, .stale), (s.seq.atr.phase ≠ .tracking, .notTracking),
            (s.guide.mode = .none, .wrongMode), (s.guide.phase = .suspended, .busy),
            (∃ old, s.guide.lastSeq = some old ∧ ¬ (1 ≤ (seq - old).toNat ∧ (seq - old).toNat ≤ 32767), .duplicate)]
            = before ++ (failed, code) :: after →
          (∀ x ∈ before, ¬ x.1) → failed →
          ∃ t, exec (.guideCorrection dt) s = .next t
            ∧ Effect f code (beOctets 1 s.guide.phase.code ++ encFlag s.guide.lastSeq.isSome
                ++ beOctets 2 ((s.guide.lastSeq.map BitVec.toNat).getD 0)) [] Part.owners (advance dt s) t)

/-- R7, R11, R14, R23: ENTRY WITHDRAW of an id not in the list is refused NO_SUCH_TARGET and changes nothing; of a
QUEUED entry it removes the entry and its segments, writes no record, latches LIST_EMPTY when no entry is left, ends a
wait on it, leaves the timers of a head that stays to run on to their expiry, and takes selection; of the ACTIVE entry
it ends the observation WITHDRAWN, with the selection, or the brake instruction, that follows every ending. -/
def Obligations.EntryWithdrawRemovesTheEntry : Prop :=
  ∀ (dt id : Nat) (f : Frame) (s : State), Requested 14 f s → f.payload.length = 2 →
    fieldNat f.payload 0 2 = id → ListLaw s →
    ((∀ x ∈ listEntries s, x.id ≠ id) → ∃ t, exec (.entryWithdraw dt) s = .next t
      ∧ Effect f .noSuchTarget [] [] Part.owners (advance dt s) t)
    ∧ ((∃ x ∈ s.seq.queue, x.id = id) → ∃ t u, exec (.entryWithdraw dt) s = .next t
      ∧ Answered f .ok [] (advance dt s) t ∧ LinkKept (advance dt s) t
      ∧ Event (if (listEntries s).length = 1 then [.listEmpty] else [])
          [.planner, .traj, .guide, .bus, .gust, .mode, .tables] (advance dt s) u
      ∧ u.seq = { s.seq with
          queue := s.seq.queue.filter (fun e => e.id != id)
          notBeforeTimer :=
            if s.seq.queue.head?.map Entry.id ≠ some id then s.seq.notBeforeTimer
            else if s.seq.active.isSome = true ∧ s.seq.running = true then
              preemptionTimer (s.seq.queue.filter (fun e => e.id != id)) (advance dt s).now
            else none
          deadlineTimer :=
            if s.seq.queue.head?.map Entry.id = some id then none else s.seq.deadlineTimer }
      ∧ u.store = { s.store with held := s.store.held.filter (fun g => g.target != id) }
      ∧ UnitsAre Part.owners (select u) t
      ∧ (s.seq.running = false ∨ s.seq.holds.isEmpty = false ∨ s.seq.active.isSome = true →
          UnitsAre Part.owners u t)
      ∧ (∀ x ∈ listEntries t, x.id ≠ id))
    ∧ (∀ e, s.seq.active = some e → e.id = id → ∃ t u more, exec (.entryWithdraw dt) s = .next t
      ∧ Answered f .ok [] (advance dt s) t ∧ LinkKept (advance dt s) t
      ∧ Closed .withdrawn e (advance dt s) u ∧ SelectedOrBraked u t
      ∧ Keeps [.bus, .gust, .mode, .tables] (advance dt s) t
      ∧ t.seq.outcomes = s.seq.outcomes ++ endRecord .withdrawn false s.seq.atr (advance dt s).now :: more
      ∧ (∀ x ∈ listEntries t, x.id ≠ id)
      ∧ (SelectionBlocked s → Ended .withdrawn e (advance dt s) t ∧ Latches (endKinds s) (advance dt s) t))

/-- R8: the reply of LIST READ, whose start index above 95 is refused RANGE, gives the number of entries and up to 16
triples from the start index, the ACTIVE entry first and then the queued order; it changes no state. -/
def Obligations.ListReadPagesTheList : Prop :=
  ∀ (dt start : Nat) (f : Frame) (s : State), Requested 15 f s → f.payload.length = 1 →
    fieldNat f.payload 0 1 = start → ListLaw s →
    let triple := fun (state : Nat) (e : Entry) =>
      encNat 2 e.id ++ beOctets 1 state ++ beOctets 1 e.priority.code
    let triples := ((s.seq.active.toList.map (triple 1) ++ s.seq.queue.map (triple 0)).drop start).take 16
    (95 < start → ∃ t, exec (.listRead dt) s = .next t
      ∧ Effect f .range [] [] Part.owners (advance dt s) t)
    ∧ (start ≤ 95 → ∃ t, exec (.listRead dt) s = .next t
      ∧ Effect f .ok (beOctets 1 (s.seq.active.toList.length + s.seq.queue.length)
          ++ beOctets 1 triples.length ++ triples.flatten) [] Part.owners (advance dt s) t)

/-- R27, R10, R202: OUTCOME FETCH of an empty queue is answered OK without a record and changes nothing. Otherwise it
returns the oldest record, laid out as R202 gives it, and removes it, and OUTCOME_FULL leaves the hold-reason set; where
that empties the set in RUNNING, selection is taken, or preemption examined while an entry is ACTIVE. Where it does not,
nothing else changes. -/
def Obligations.OutcomeFetchTakesTheOldestRecord : Prop :=
  ∀ (dt : Nat) (f : Frame) (s : State), Requested 16 f s → f.payload = [] →
    (s.seq.outcomes = [] → ∃ t, exec (.outcomeFetch dt) s = .next t
      ∧ Effect f .ok [0] [] Part.owners (advance dt s) t)
    ∧ (∀ r rest, s.seq.outcomes = r :: rest → ∃ t more, exec (.outcomeFetch dt) s = .next t
      ∧ Answered f .ok (1 :: writeOutcome r) (advance dt s) t ∧ LinkKept (advance dt s) t
      ∧ (writeOutcome r).length = 50 ∧ (OutcomeFits r → writeOutcome r = outcomeOctets r)
      ∧ HoldCleared .outcomeFull Part.owners ((advance dt s).setSeq { s.seq with outcomes := rest }) t
      ∧ Keeps [.bus, .gust, .mode, .tables] (advance dt s) t
      ∧ t.seq.outcomes = rest ++ more
      ∧ (s.seq.holds.outcomeFull = false ∨ s.seq.running = false
            ∨ (s.seq.holds.operator || s.seq.holds.link || s.seq.holds.gustL1 || s.seq.holds.gustRest) = true →
          Latches [] (advance dt s) t ∧ Keeps [.store, .planner, .traj, .guide] (advance dt s) t
            ∧ t.seq = { s.seq with outcomes := rest, holds := { s.seq.holds with outcomeFull := false } }))

/-- R20, R22, R23, R111, R112: the settle deadline ends a settling observation NO_SETTLE, the acquire timer ends one
NO_GUIDE, and the lost timer ends one GUIDE_LOST: exactly one record joins the Outcome Queue for it, and where
selection has nothing to take after it the axes brake. -/
def Obligations.ObservationTimersEndTheObservation : Prop :=
  ∀ (dt d : Nat) (e : Entry) (s : State), s.seq.active = some e → ListLaw s →
    ∀ x ∈ [(s.seq.settleTimer, Instr.settleDeadline dt, Ending.noSettle, s.seq.atr.phase = .settling),
        (s.guide.acquireTimer, .acquireTimer dt, .noGuide, True),
        (s.guide.lostTimer, .lostTimer dt, .guideLost, True)],
      x.1 = some d → d ≤ (advance dt s).now → x.2.2.2 →
      ∃ t more, exec x.2.1 s = .next t
        ∧ LinkGrows (advance dt s) t ∧ Keeps [.bus, .gust, .mode, .tables] (advance dt s) t
        ∧ t.seq.outcomes = s.seq.outcomes ++ endRecord x.2.2.1 false s.seq.atr (advance dt s).now :: more
        ∧ (SelectionBlocked s → Ended x.2.2.1 e (advance dt s) t
            ∧ Latches (endKinds s) (advance dt s) t)

/-- R20, R21, R29, R115: the Sequencer counts a report's following error against the settle tolerance in SETTLING, where
the third settled axis begins TRACKING, latches TRACKING_BEGUN and, with a guide mode, tells the Guide Unit to begin,
raises the peak in TRACKING, and does nothing in another phase. -/
def Obligations.TheSequencerCountsReports : Prop :=
  ∀ (i : Axis) (fe : Int) (e : Entry) (s : State), s.seq.active = some e →
    let others := [Part.store, .planner, .traj, .bus, .gust, .mode, .tables]
    let n := if fe.natAbs ≤ ((params s).get i).settleTol then min ((s.seq.atr.settle.get i) + 1) 20 else 0
    let t := seqReport i fe s
    (s.seq.atr.phase = .settling → s.seq.atr.settle.get i ≤ 20 →
      (∀ j, t.seq.atr.settle.get j = if j = i then n else s.seq.atr.settle.get j)
      ∧ Keeps others s t
      ∧ (t.seq.atr.settle ≠ ⟨20, 20, 20⟩ → t.link = s.link ∧ t.guide = s.guide
          ∧ t.seq = { s.seq with atr := { s.seq.atr with settle := t.seq.atr.settle } })
      ∧ (t.seq.atr.settle = ⟨20, 20, 20⟩ → t.seq.atr.phase = .tracking
          ∧ t.seq.atr.trackStart = some s.now ∧ t.seq.settleTimer = none ∧ t.guide.mode = e.guideMode
          ∧ LinkGrows s t
          ∧ Latches (.trackingBegun :: if e.guideMode ≠ .none ∧ s.guide.phase ≠ .waiting then [.guideChanged] else [])
              s t
          ∧ (e.guideMode ≠ .none → t.guide.phase = .waiting)
          ∧ (e.guideMode = .required → t.guide.acquireTimer = some (s.now + 30000000))))
    ∧ (s.seq.atr.phase = .tracking → t = s.setSeq { s.seq with atr := { s.seq.atr with peak := t.seq.atr.peak } }
      ∧ ∀ j, t.seq.atr.peak.get j = if j = i
          then some (max ((s.seq.atr.peak.get i).getD fe.natAbs) fe.natAbs) else s.seq.atr.peak.get j)
    ∧ (s.seq.atr.phase ≠ .settling → s.seq.atr.phase ≠ .tracking → t = s)

/-! ## Track segments -/

/-- R39, R36, R1: the position of a segment at a time, on every axis from the same segment and the same τ, is p0 plus
the whole number nearest the exact quotient, a half rounded away from zero. Unwrapping takes the candidate nearest the
reference, p0 itself when two are equally near. -/
def Obligations.SegmentsAreEvaluatedAndUnwrapped : Prop :=
  (∀ (g : Segment) (i : Axis) (t : Nat),
      let τ : Int := (t : Int) - (g.start : Int)
      let c := g.poly.get i
      let n := 2000000 * c.v * τ + c.a * (τ * τ)
      let x := segmentAt g i t - c.p0
      2 * (x * 2000000000000000 - n).natAbs ≤ 2000000000000000
        ∧ (2 * (x * 2000000000000000 - n).natAbs = 2000000000000000 →
            (0 < n → n < x * 2000000000000000) ∧ (n < 0 → x * 2000000000000000 < n)))
  ∧ (∀ ref p0 : Int, ∃ k : Int, (k = -1 ∨ k = 0 ∨ k = 1) ∧ unwrapTo ref p0 = p0 + k * 1296000000
        ∧ (∀ j : Int, (j = -1 ∨ j = 0 ∨ j = 1) →
            (p0 + k * 1296000000 - ref).natAbs ≤ (p0 + j * 1296000000 - ref).natAbs)
        ∧ ((p0 - ref).natAbs = (p0 + k * 1296000000 - ref).natAbs → k = 0))

/-- R40, R41, R43: the latest segment to have started answers within its span and for 2 s beyond, the first of a chain
for up to 2 s before its start, and no other time is covered. Retirement at a demand time removes exactly the segments
whose successor has started, leaves every chain that is not empty a segment, and changes no answer for a time at or
after it. -/
def Obligations.AChainAnswersBeforeAndAfterRetirement : Prop :=
  (∀ (chain : List Segment) (t : Nat), InOrder chain →
      (∀ g ∈ chain, g.start ≤ t → (∀ h ∈ chain, h.start ≤ t → h.start ≤ g.start) →
        answerAt chain t =
          if t < g.start + g.dur then (.within, some g)
          else if t < g.start + g.dur + 2000000 then (.forward, some g) else (.uncovered, none))
      ∧ ((∀ g ∈ chain, t < g.start) → ∀ g ∈ chain, (∀ h ∈ chain, g.start ≤ h.start) →
        answerAt chain t = if g.start ≤ t + 2000000 then (.backward, some g) else (.uncovered, none))
      ∧ (chain = [] → answerAt chain t = (.uncovered, none)))
  ∧ (∀ (t : Nat) (s : State), StoreLaw s →
        (∀ g, g ∈ (retireAt t s).store.held ↔ g ∈ s.store.held
          ∧ ¬ ∃ b ∈ s.store.held, b.target = g.target ∧ g.start < b.start ∧ b.start ≤ t)
        ∧ (∀ id, chainOf s.store.held id ≠ [] → chainOf (retireAt t s).store.held id ≠ [])
        ∧ ∀ (id later : Nat), t ≤ later →
            answerAt (chainOf (retireAt t s).store.held id) later = answerAt (chainOf s.store.held id) later)

/-- R34 to R38, R15, R24, R46: a SEGMENT PUT that passes its checks replaces, truncates or follows the last segment of
its chain, is unwrapped, clears the entry's track-wait start, and arms the low-track flag where the active target's
margin is 10 s or more. For a target other than the head, and for the head while the run is stopped or held, nothing
else changes. For the head the track-wait timer stops, and selection is taken, or preemption examined while an entry is
ACTIVE. That both counts of the reply are taken last, after that selection or preemption and the segments that it
drops, is the model's reading of R38 (DEDUCED, log 40). -/
def Obligations.AnAcceptedSegmentJoinsItsChain : Prop :=
  ∀ (dt : Nat) (a e r : AxisParams) (f : Frame) (s : State), Requested 17 f s → f.payload.length = 50 →
    let g := readSegment f.payload
    let chain := chainOf s.store.held g.target
    let within := fun (p : AxisParams) (c : Poly) =>
      (c.v.natAbs : Int) ≤ p.trackRate * 1000 ∧ (c.a.natAbs : Int) ≤ p.amax * 1000
    50000 ≤ g.dur → g.dur ≤ 120000000 → g.start + g.dur < 2 ^ 48 →
    0 ≤ g.poly.az.p0 → g.poly.az.p0 < 1296000000 → 0 ≤ g.poly.rot.p0 → g.poly.rot.p0 < 1296000000 →
    -18000000 ≤ g.poly.el.p0 → g.poly.el.p0 ≤ 324000000 →
    s.tables.paramsStatus = .valid → s.tables.params = [a, e, r] →
    within a g.poly.az → within e g.poly.el → within r g.poly.rot → g.target ∈ windowIds s →
    (advance dt s).now < g.start + g.dur → (∀ l, chain.getLast? = some l → l.start ≤ g.start) →
    ((∃ l, chain.getLast? = some l ∧ l.start = g.start) ∨ (s.store.held.length < 24 ∧ chain.length < 12)) →
    let unwaited := fun x : Entry => if x.id = g.target then { x with trackWait := none } else x
    let joined := fun u : State => Latches [] (advance dt s) u ∧ Keeps [.planner, .traj, .guide] (advance dt s) u
      ∧ chainOf u.store.held g.target = chainWith chain g
      ∧ (∀ id, id ≠ g.target → chainOf u.store.held id = chainOf s.store.held id)
      ∧ u.seq = { s.seq with
          active := s.seq.active.map unwaited, queue := s.seq.queue.map unwaited
          trackWaitTimer := u.seq.trackWaitTimer }
      ∧ u.seq.trackWaitTimer = (if s.seq.queue.head?.map Entry.id = some g.target then none
          else s.seq.trackWaitTimer)
      ∧ u.store.lowArmed = (if s.seq.active.any (fun x => x.id == g.target)
          ∧ (advance dt s).now + 10000000 ≤ g.start + g.dur then true else s.store.lowArmed)
    ∃ t, exec (.segmentPut dt) s = .next t
      ∧ Answered f .ok (segmentCounts g t) (advance dt s) t ∧ LinkKept (advance dt s) t
      ∧ Keeps [.bus, .gust, .mode, .tables] (advance dt s) t
      ∧ ((s.seq.queue.head?.map Entry.id ≠ some g.target ∨ s.seq.running = false
            ∨ s.seq.holds.isEmpty = false) → joined t)
      ∧ (s.seq.queue.head?.map Entry.id = some g.target → ListLaw s →
          ∃ u, joined u ∧ Keeps [.bus, .gust, .mode, .tables] (advance dt s) u
            ∧ UnitsAre Part.owners (chosen u) t)

/-! ## Slew planning -/

/-- R58, R78: the slew of an axis over a distance is the triangle or trapezoid of the manual with each duration the
smallest whole number of microseconds that satisfies its inequality. A braking step falls by its decrement at each
expiry, in its own direction, and reaches 0 after the ceiling of its magnitude divided by the decrement. -/
def Obligations.SlewsAndRampsTakeTheirLeastTime : Prop :=
  (∀ (vmax amax : Nat) (D : Int), 0 < vmax → 0 < amax →
      let d := D.natAbs
      let r := slewOver vmax amax D
      r.dist = D ∧ r.time = 2 * r.ta + r.tc
        ∧ (d = 0 → r.ta = 0 ∧ r.tc = 0)
        ∧ (0 < d → d * amax < vmax * vmax → r.tc = 0
            ∧ d * 10 ^ 12 ≤ amax * (r.ta * r.ta) ∧ ∀ x, d * 10 ^ 12 ≤ amax * (x * x) → r.ta ≤ x)
        ∧ (0 < d → vmax * vmax ≤ d * amax →
            vmax * 10 ^ 6 ≤ amax * r.ta ∧ (∀ x, vmax * 10 ^ 6 ≤ amax * x → r.ta ≤ x)
            ∧ (d * amax - vmax * vmax) * 10 ^ 6 ≤ vmax * amax * r.tc
            ∧ ∀ x, (d * amax - vmax * vmax) * 10 ^ 6 ≤ vmax * amax * x → r.tc ≤ x))
  ∧ (∀ (decrement n : Nat) (step : Int), 1 ≤ decrement →
        let after := Nat.repeat (fun d => rampStep d decrement) n step
        after.natAbs = step.natAbs - n * decrement
          ∧ (0 ≤ step → 0 ≤ after) ∧ (step ≤ 0 → after ≤ 0)
          ∧ (after = 0 ↔ (step.natAbs + decrement - 1) / decrement ≤ n))

/-- R57: the wrap turn of a circular axis is one whose candidate and projection lie within the limits; NEAREST takes
the closest to the start point, the lower of two equally close, HIGH the largest and LOW the smallest; there is none
exactly when no candidate is acceptable. -/
def Obligations.TheWrapTurnFollowsThePreference : Prop :=
  ∀ (p : AxisParams) (pref : WrapPref) (dwell : Nat) (x v ps : Int),
    let cand := fun k : Int => x + k * 1296000000
    let step := nearest (v * (dwell : Int)) 1000000000
    let ok := fun k : Int => (k = -1 ∨ k = 0 ∨ k = 1) ∧ p.lower ≤ cand k ∧ cand k ≤ p.upper
      ∧ p.lower ≤ cand k + step ∧ cand k + step ≤ p.upper
    (chooseWrap p pref dwell x v ps = none ↔ ∀ k, ¬ ok k)
    ∧ ∀ k, chooseWrap p pref dwell x v ps = some k → ok k ∧ ∀ j, ok j →
        match pref with
        | .nearest => (cand k - ps).natAbs ≤ (cand j - ps).natAbs
            ∧ ((cand k - ps).natAbs = (cand j - ps).natAbs → k ≤ j)
        | .high => j ≤ k
        | .low => k ≤ j

/-- R55, R57, R59, R61, R62, R166: a pass of a running plan moves every axis that still iterates by one pass: toward
the park or stow position, or, in a TARGET plan whose turns are chosen, toward the target's mount position at t_s plus
the slew time of the pass before. An axis converges within 2,000 µs, fails NO_INTERCEPT at its sixth pass, and fails
NO_TRACK where no position is given; nothing but the running plan changes. Pass 1 of a TARGET plan stops NO_TRACK where
t_s is uncovered and WRAP where a circular axis has no acceptable turn, and otherwise chooses the turns by the entry's
preference and dwell and makes the pass with them. That pass 1 counts as made where it stops the plan, and that a plan
whose entry is gone stops NO_TRACK, is the model's reading (log 19). -/
def Obligations.APassMovesEachIteratingAxis : Prop :=
  (∀ (dt : Nat) (r : PlanRec) (s : State), s.planner.running = some r → passDue r (advance dt s).now = true →
    ((r.kind = .target ∧ r.target.isSome = true) → r.tables.isSome = true) →
    let tb := r.tables.getD ⟨params (advance dt s), validGrid (advance dt s)⟩
    let chain := (r.target.map (chainOf s.store.held)).getD []
    let toward := fun (i : Axis) (before : Nat) => match r.kind with
      | .park => some (tb.params.get i).park
      | .stow => some (tb.params.get i).stow
      | .target => mountPosition tb.grid chain (r.wraps.getD ⟨0, 0⟩) i (r.ts + before)
    ∃ t r', exec (.planPass dt) s = .next t
      ∧ t.planner = { s.planner with running := some r' }
      ∧ Keeps [.link, .seq, .store, .traj, .guide, .bus, .gust, .mode, .tables] (advance dt s) t
      ∧ r' = { r with passes := r'.passes, work := r'.work, tables := some tb }
      ∧ ∀ i, AxisPassed (tb.params.get i) (r.ps.get i) (toward i) (r.passes.get i) (r.work.get i) (r'.passes.get i)
          (r'.work.get i))
  ∧ (∀ (dt id : Nat) (r : PlanRec) (s : State), s.planner.running = some r → passDue r (advance dt s).now = true →
        r.kind = .target → r.target = some id → r.tables = none → ListLaw s →
        let tb : PlanTables := ⟨params (advance dt s), validGrid (advance dt s)⟩
        let chain := chainOf s.store.held id
        ∃ t r', exec (.planPass dt) s = .next t
          ∧ t.planner = { s.planner with running := some r' }
          ∧ Keeps [.link, .seq, .store, .traj, .guide, .bus, .gust, .mode, .tables] (advance dt s) t
          ∧ let stops := fun o : PlanOutcome =>
              r' = { r with passes := r'.passes, stopped := some o, tables := some tb }
                ∧ ∀ i, (∀ n, r.work.get i = .iterating n → r'.passes.get i = r.passes.get i + 1)
                  ∧ ((∀ n, r.work.get i ≠ .iterating n) → r'.passes.get i = r.passes.get i)
            (((answerAt chain r.ts).2 = none ∨ ∀ e ∈ listEntries s, e.id ≠ id) → stops .noTrack)
            ∧ ∀ g e, (answerAt chain r.ts).2 = some g → e ∈ listEntries s → e.id = id →
              let turn := fun (i : Axis) => chooseWrap (tb.params.get i) e.wrapPref e.dwell
                (segmentAt g i r.ts + correction tb.grid (segmentAt g .az r.ts) (segmentAt g .el r.ts) i)
                (g.poly.get i).v (r.ps.get i)
              ((turn .az = none ∨ turn .rot = none) → stops .wrap)
              ∧ ∀ az rot, turn .az = some az → turn .rot = some rot →
                r' = { r with wraps := some ⟨az, rot⟩, passes := r'.passes, work := r'.work, tables := some tb }
                  ∧ ∀ i, AxisPassed (tb.params.get i) (r.ps.get i)
                      (fun before => mountPosition tb.grid chain ⟨az, rot⟩ i (r.ts + before))
                      (r.passes.get i) (r.work.get i) (r'.passes.get i) (r'.work.get i))

/-- R60, R61, R62: a plan's outcome is its stop in pass 1, else NO_TRACK, else NO_INTERCEPT, else SUCCESS for a PARK
or STOW, and for a TARGET the horizon check at the meet time of EL. -/
def Obligations.APlansOutcomeIsTheFirstThatApplies : Prop :=
  ∀ (r : PlanRec) (s : State),
    (∀ o, r.stopped = some o → planOutcome s r = o)
    ∧ (r.stopped = none → (∃ i, r.work.get i = .failed .noTrack) → planOutcome s r = .noTrack)
    ∧ (r.stopped = none → (∀ i, r.work.get i ≠ .failed .noTrack) →
        (∃ i, r.work.get i = .failed .noIntercept) → planOutcome s r = .noIntercept)
    ∧ (r.stopped = none → (∀ i, r.work.get i ≠ .failed .noTrack) →
        (∀ i, r.work.get i ≠ .failed .noIntercept) →
        (r.kind ≠ .target → planOutcome s r = .success)
        ∧ ∀ id w, r.kind = .target → r.target = some id → r.work.el = .converged w →
          let at_ := mountPosition (validGrid s) (chainOf s.store.held id) (r.wraps.getD ⟨0, 0⟩)
          (at_ .el (r.ts + w.time) = none → planOutcome s r = .noTrack)
          ∧ ∀ el az, at_ .el (r.ts + w.time) = some el → at_ .az (r.ts + w.time) = some az →
            let floor := max (params s).el.lower
              (if s.tables.maskStatus = .valid then
                s.tables.mask.getD ((az % 1296000000) / 18000000).toNat 0 else 0)
            planOutcome s r = if floor ≤ el ∧ el ≤ (params s).el.upper then .success else .horizon)

/-- R66 to R69, R18, R23, R63, R176: a completed plan whose mark is withdrawn is discarded; one that succeeded is
installed and its requester told, a PARK's or STOW's with the motion settle deadline at the plan end time, t_s plus the
largest slew time, plus the largest settle timeout of the planned axes. Axes that were not planned stay as they are. In
every case the pending request becomes the running plan. One that failed ends its observation with its outcome, after
the pending request has begun to run. Where no plan is left running, the axes in PROJECT of a plan that was not
installed brake. -/
def Obligations.ACompletedPlanIsDisposedOf : Prop :=
  ∀ (dt : Nat) (r : PlanRec) (s : State), s.planner.running = some r →
    completionDue r (advance dt s).now = true →
    let u := advance dt s
    let next := s.planner.waiting.map (fun w => { w with start := some u.now })
    let braked := fun a : AxisMotion =>
      if a.motion = .project then { a with motion := .brake, line := none, profile := none } else a
    let slew := fun i => match r.work.get i with
      | .converged w => w.time
      | _ => 0
    let timeout := fun i => ((params u).get i).settleTimeout
    let deadline := r.ts + max (slew .az) (max (slew .el) (slew .rot))
      + (if r.kind = .stow then timeout .el else max (timeout .az) (max (timeout .el) (timeout .rot)))
    (r.markHeld = false → ∃ t, exec (.planCompletion dt) s = .next t
      ∧ Keeps [.link, .seq, .store, .guide, .bus, .gust, .mode, .tables] u t
      ∧ t.planner = { s.planner with running := next, waiting := none, discarded := bump s.planner.discarded }
      ∧ t.traj = { s.traj with
          axes := if s.planner.waiting = none then s.traj.axes.map braked else s.traj.axes })
    ∧ (r.markHeld = true → planOutcome u r = .success → ∃ t, exec (.planCompletion dt) s = .next t
      ∧ Keeps [.link, .store, .guide, .bus, .gust, .tables] u t
      ∧ t.planner = { s.planner with running := next, waiting := none, installed := bump s.planner.installed }
      ∧ t.traj = { s.traj with axes := t.traj.axes, wraps := t.traj.wraps }
      ∧ (∀ i w, r.work.get i = .converged w → t.traj.axes.get i = { s.traj.axes.get i with
          profile := some ⟨r.ts, r.ps.get i, w.dist, w.ta, w.tc, w.time,
            if r.kind = .target then .track else .hold⟩ })
      ∧ (∀ i, (∀ w, r.work.get i ≠ .converged w) → t.traj.axes.get i = s.traj.axes.get i)
      ∧ (∀ w, r.kind = .target → r.wraps = some w → t.traj.wraps = w)
      ∧ (r.kind ≠ .target → t.traj.wraps = s.traj.wraps)
      ∧ (r.kind = .target → t.mode = u.mode ∧ t.seq = { s.seq with
          atr := { s.seq.atr with slewStart := some r.ts, wraps := r.wraps } })
      ∧ (r.kind ≠ .target → t.seq = s.seq
          ∧ (s.mode.settle = .awaiting →
              t.mode = { u.mode with motionStart := some r.ts, settleDeadline := some deadline })
          ∧ (s.mode.settle ≠ .awaiting → t.mode = u.mode)))
    ∧ (∀ o, r.markHeld = true → (planOutcome u r).asEnding = some o →
      (∀ e, s.seq.active = some e → ListLaw s → ∃ t v more, exec (.planCompletion dt) s = .next t
        ∧ LinkGrows u t ∧ Keeps [.bus, .gust, .mode, .tables] u t
        ∧ Closed o e (u.setPlanner { s.planner with running := next, waiting := none }) v
        ∧ SelectedOrBraked v t
        ∧ t.planner.installed = s.planner.installed ∧ t.planner.discarded = s.planner.discarded
        ∧ t.seq.outcomes = s.seq.outcomes ++ endRecord o false s.seq.atr u.now :: more)
      ∧ (s.seq.active = none → ∃ t, exec (.planCompletion dt) s = .next t
        ∧ Keeps [.link, .seq, .store, .guide, .bus, .gust, .mode, .tables] u t
        ∧ t.planner = { s.planner with running := next, waiting := none }
        ∧ t.traj = { s.traj with
            axes := if s.planner.waiting = none then s.traj.axes.map braked else s.traj.axes }))

/-! ## The demand computation -/

/-- R76 to R88: the raw value of an axis at an expiry in each motion mode: HOLD its last demand, BRAKE the last demand
plus its step less the decrement, PROJECT its line, SLEW its profile, and TRACK or COAST the composed demand of the
segment that answers, with the modes each enters; an uncovered answer makes TRACK and COAST brake. A profile's value and
the grid's correction are each the whole number nearest to the manual's quotient. A motion mode without the record it
needs (PROJECT without a line, SLEW without a profile) stands in no run. -/
def Obligations.EachMotionModeFormsItsValue : Prop :=
  (∀ (inp : Inputs) (i : Axis) (last : Int) (a : AxisMotion), a.last = some last →
    let w := if i = .az then inp.wraps.az else if i = .rot then inp.wraps.rot else 0
    let offset := if i = .az then inp.azOffset else if i = .el then inp.elOffset else 0
    let mount := fun g : Segment => segmentAt g i inp.t
      + correction inp.grid (segmentAt g .az inp.t) (segmentAt g .el inp.t) i + offset + w * 1296000000
    let f := form inp i a
    let brakes := ∀ before p, a.prev = some before → inp.params = some p →
      let dec := max 1 ((p.get i).amax / 40000)
      let step := last - before
      let new := if step.natAbs ≤ dec.toNat then 0 else if 0 < step then step - dec else step + dec
      f.value = last + new ∧ f.motion = if new = 0 then .hold else .brake
    (a.motion = .hold → (∀ p, a.profile = some p → p.ts ≠ inp.t) → f.motion = .hold ∧ f.value = last)
    ∧ (a.motion = .brake → brakes)
    ∧ (∀ l, a.motion = .project → (∀ p, a.profile = some p → p.ts ≠ inp.t) → a.line = some l →
        f.motion = .project
          ∧ f.value = l.base + l.step * (((inp.t : Int) - (l.baseTime : Int)) / 5000))
    ∧ (∀ p, a.profile = some p → (a.motion = .slew ∨ p.ts = inp.t ∧ (a.motion = .hold ∨ a.motion = .project)) →
        (inp.t < p.ts + p.time → f.motion = .slew ∧ f.value = profileAt p (inp.t - p.ts))
        ∧ (p.ts + p.time ≤ inp.t → p.follow = .hold → f.motion = .hold ∧ f.value = p.ps + p.dist)
        ∧ (p.ts + p.time ≤ inp.t → p.follow = .track →
            (∀ g, inp.segment = some g →
              f.motion = (if inp.coverage = .within then .track else .coast) ∧ f.value = mount g)
            ∧ (inp.segment = none → brakes)))
    ∧ ((a.motion = .track ∨ a.motion = .coast) →
        (∀ g, inp.segment = some g → f.value = mount g
          ∧ f.motion = (if inp.coverage = .within then .track else .coast))
        ∧ (inp.segment = none → (f.motion = .brake ∨ f.motion = .hold) ∧ brakes)))
  ∧ (∀ (p : Profile) (u : Nat), u < p.time → p.time = 2 * p.ta + p.tc → 0 < p.ta →
        let den := 2 * p.ta * (p.ta + p.tc)
        let num := if u ≤ p.ta then u * u else if u ≤ p.ta + p.tc then p.ta * (2 * u - p.ta)
          else den - (p.time - u) * (p.time - u)
        IsNearest (profileAt p u - p.ps) (p.dist * (num : Int)) den)
  ∧ (∀ (nodes : List GridNode) (az el : Int) (i : Axis) (c r : Nat) (fa fe : Int), nodes.length = 240 →
        c < 24 → r < 9 → az % 1296000000 = 54000000 * (c : Int) + fa → 0 ≤ fa → fa < 54000000 →
        max 0 (min 324000000 el) = 36000000 * (r : Int) + fe → 0 ≤ fe → (fe < 36000000 ∨ r = 8) →
        let node := fun (c r : Nat) => (nodes.getD (r * 24 + c) ⟨0, 0, 0⟩ : GridNode).get i
        let east := if c = 23 then 0 else c + 1
        IsNearest (correction (some nodes) az el i)
          ((54000000 - fa) * (36000000 - fe) * node c r + fa * (36000000 - fe) * node east r
            + (54000000 - fa) * fe * node c (r + 1) + fa * fe * node east (r + 1)) (54000000 * 36000000)
        ∧ correction none az el i = 0)

/-- R74, R95, R96, R119 to R122, R145: a demand expiry sends one frame with the expiry's demand time, the next sequence
number, each axis's new last demand (0 for an unset axis) and the commands of the mount mode and the rest override, and
enters it in the histories; the next expiry is 5,000 µs later. R128 to R131: it closes a demand period for each axis;
an axis that turns SILENT takes an enabled mount into FAULT and latches AXIS_PROBLEM in PARKED and STOWED. R43, R46: no
segment whose successor has started is left, and in TRACKING a margin below 10 s with the flag armed latches
SEGMENT_LOW. R122, R176: with no entry ACTIVE and no axis silent, an ARMED override becomes ACTIVE, and an awaited
motion settle begins to count, at the first expiry that leaves every axis in HOLD. R83, R93, R94, R21: in OBSERVING the
observation ends STARVED, LIMIT, RATE or DONE, the first that applies, and each clamp is counted, the consecutive count
being 0 where an activation follows. R18, R19, R21: where it does not end, the phase becomes SLEWING at t_s and
SETTLING as the last axis leaves SLEW, with its deadline, and the tracked time is counted. The order of what one expiry
judges is the model's reading (log 11). -/
def Obligations.ADemandExpirySendsOneFrame : Prop :=
  (∀ (dt : Nat) (s : State), (advance dt s).now % 5000 = 0 → s.traj.nextExpiry ≤ (advance dt s).now →
    let now := (advance dt s).now
    ∃ t f, exec (.demandExpiry dt) s = .next t ∧ t.tables = s.tables
      ∧ t.bus.frame = some f ∧ f.seq = s.bus.seq ∧ f.time = now ∧ t.bus.seq = s.bus.seq + 1
      ∧ t.bus.lastDrive = some f.drive ∧ t.bus.lastBrake = some f.brake
      ∧ t.traj.nextExpiry = now + 5000 ∧ t.traj.lastTime = now
      ∧ (s.mode.mode.isEnabled = false → f.drive = .disable ∧ f.brake = .engage)
      ∧ (s.mode.mode.isEnabled = true → s.bus.override = .none → f.drive = .enable ∧ f.brake = .release)
      ∧ (s.bus.override = .active → f.drive = .disable ∧ f.brake = .engage)
      ∧ (∀ i, f.pos.get i = ((t.traj.axes.get i).last).getD 0
          ∧ ((s.traj.axes.get i).last = none → (t.traj.axes.get i).last = none ∧ f.vel.get i = 0)
          ∧ (∀ l, (s.traj.axes.get i).last = some l →
              (s.mode.mode.isEnabled = false → f.pos.get i = l ∧ f.vel.get i = 0)
              ∧ (s.mode.mode.isEnabled = true → (t.traj.axes.get i).prev = some l
                ∧ f.vel.get i = max (-2147483648) (min 2147483647 ((f.pos.get i - l) * 200))))
          ∧ (t.bus.axes.get i).history = ((s.bus.axes.get i).history.drop
                ((s.bus.axes.get i).history.length - 7))
              ++ [⟨s.bus.seq, (t.traj.axes.get i).last, false⟩])
      ∧ (∀ i, let a := s.bus.axes.get i
          let b := t.bus.axes.get i
          b = { a with
              history := b.history, heard := false, state := b.state
              silence := if s.bus.lastDrive = none then a.silence
                else if a.heard = true then 0 else min (a.silence + 1) 4 }
            ∧ (TurnsSilent s i → b.state = .silent) ∧ (¬ TurnsSilent s i → b.state = a.state))
      ∧ ((∃ i, TurnsSilent s i) →
          (s.mode.mode.isEnabled = true → t.mode.mode = .fault ∧ t.mode.alerts.axis = true)
          ∧ (s.mode.mode = .parked ∨ s.mode.mode = .stowed → t.mode.mode = s.mode.mode
            ∧ t.link.events &&& (s.link.mask &&& EventKind.axisProblem.word)
              = s.link.mask &&& EventKind.axisProblem.word))
      ∧ (∀ g ∈ t.store.held, g ∈ s.store.held
          ∧ ¬ ∃ b ∈ s.store.held, b.target = g.target ∧ g.start < b.start ∧ b.start ≤ now)
      ∧ (∀ e, StoreLaw s → s.seq.active = some e → s.seq.atr.phase = .tracking → s.store.lowArmed = true →
          (∀ g, (chainOf s.store.held e.id).getLast? = some g → g.start + g.dur < now + 10000000) →
          t.link.events &&& (s.link.mask &&& EventKind.segmentLow.word)
            = s.link.mask &&& EventKind.segmentLow.word)
      ∧ (s.seq.active = none → (∀ i, ¬ TurnsSilent s i) →
          let rests := ∀ i, (t.traj.axes.get i).motion = .hold
          let counts := s.mode.settle = .awaiting ∧ ∃ ts, s.mode.motionStart = some ts ∧ ts ≤ now
          (s.bus.override = .armed → rests → t.bus.override = .active ∧ f.drive = .disable ∧ f.brake = .engage
            ∧ t.gust = { s.gust with rest := if s.gust.rest = .braking then .resting else s.gust.rest })
          ∧ (s.bus.override ≠ .armed ∨ ¬ rests → t.bus.override = s.bus.override ∧ t.gust = s.gust)
          ∧ (counts → rests → t.mode = { (advance dt s).mode with
              settle := .counting, settleCount := ⟨0, 0, 0⟩ })
          ∧ (¬ counts ∨ ¬ rests → t.mode = (advance dt s).mode)))
  ∧ (∀ (dt : Nat) (e : Entry) (az el rot : AxisParams) (s : State), (advance dt s).now % 5000 = 0 →
        s.traj.nextExpiry ≤ (advance dt s).now → s.mode.mode = .observing → s.seq.active = some e →
        s.seq.atr.phase ≠ .none → s.tables.paramsStatus = .valid → s.tables.params = [az, el, rot] →
        0 ≤ az.vmax → 0 ≤ el.vmax → 0 ≤ rot.vmax → StoreLaw s → WatchLaw s →
        (∀ i, ¬ TurnsSilent s i) →
        let now := (advance dt s).now
        let inp := takeInputs now (advance dt s)
        let limits : Tri AxisParams := ⟨az, el, rot⟩
        ∃ t f, exec (.demandExpiry dt) s = .next t ∧ t.bus.frame = some f ∧
          let masked := if s.tables.maskStatus = .valid then
            s.tables.mask.getD ((f.pos.az % 1296000000) / 18000000).toNat 0 else 0
          let floor := fun i : Axis => if i = .el then max el.lower masked else (limits.get i).lower
          let raw := fun i => (form inp i (s.traj.axes.get i)).value
          let m := fun i => (limits.get i).vmax / 200
          let follows := fun i => Follows now (s.traj.axes.get i) ∧ (answerAt (chainOf s.store.held e.id) now).2 ≠ none
          let velBit := fun i => ∃ l, (s.traj.axes.get i).last = some l ∧ (raw i < l - m i ∨ l + m i < raw i)
          let posBit := fun i => ∃ l, (s.traj.axes.get i).last = some l
            ∧ (max (l - m i) (min (l + m i) (raw i)) < floor i
              ∨ (limits.get i).upper < max (l - m i) (min (l + m i) (raw i)))
          let held := fun i => follows i ∧ (answerAt (chainOf s.store.held e.id) now).1 = .within ∧ velBit i
          let starved := (∃ i, Follows now (s.traj.axes.get i)) ∧ (answerAt (chainOf s.store.held e.id) now).2 = none
          let limit := ∃ i, follows i ∧ posBit i
          let rate := ∃ i, held i ∧ 19 ≤ (s.traj.axes.get i).clampRun
          let done := s.seq.atr.phase = .tracking ∧ ∃ t0, s.seq.atr.trackStart = some t0 ∧ t0 + e.dwell ≤ now
          let begun := (starved ∨ limit ∨ rate ∨ done) ∧ t.seq.active.isSome = true
          let ends := fun o : Ending => ∃ more,
            t.seq.outcomes = s.seq.outcomes ++ endRecord o false s.seq.atr now :: more
          (∀ i, let a := s.traj.axes.get i
            let b := t.traj.axes.get i
            (velBit i → b.velTally = bump a.velTally) ∧ (¬ velBit i → b.velTally = a.velTally)
            ∧ (posBit i → b.posTally = bump a.posTally) ∧ (¬ posBit i → b.posTally = a.posTally)
            ∧ (begun → b.clampRun = 0)
            ∧ (¬ begun → (held i → b.clampRun = min (a.clampRun + 1) 20) ∧ (¬ held i → b.clampRun = 0)))
          ∧ (starved → ends .starved)
          ∧ (¬ starved → limit → ends .limit)
          ∧ (¬ starved → ¬ limit → rate → ends .rate)
          ∧ (¬ starved → ¬ limit → ¬ rate → done → ends .done)
          ∧ (¬ starved → ¬ limit → ¬ rate → ¬ done →
            let slews := s.seq.atr.phase = .slewing ∨ (s.seq.atr.phase = .planning ∧ s.seq.atr.slewStart = some now)
            let settles := slews ∧ ∀ i, (t.traj.axes.get i).motion ≠ .slew
            let due := now + max az.settleTimeout (max el.settleTimeout rot.settleTimeout)
            let low := s.seq.atr.phase = .tracking
              ∧ ∀ g, (chainOf s.store.held e.id).getLast? = some g → g.start + g.dur < now + 10000000
            Keeps [.planner, .guide, .mode, .tables] (advance dt s) t
            ∧ (settles → t.seq = { s.seq with
                atr := { s.seq.atr with phase := .settling, settle := ⟨0, 0, 0⟩, settleDeadline := some due }
                settleTimer := some due })
            ∧ (slews → ¬ settles → t.seq = { s.seq with atr := { s.seq.atr with phase := .slewing } })
            ∧ (∀ t0, s.seq.atr.phase = .tracking → s.seq.atr.trackStart = some t0 →
                t.seq = { s.seq with atr := { s.seq.atr with tracked := now - t0 } })
            ∧ (¬ slews → s.seq.atr.phase ≠ .tracking → t.seq = s.seq)
            ∧ (∀ g, g ∈ t.store.held ↔ g ∈ s.store.held
              ∧ ¬ ∃ b ∈ s.store.held, b.target = g.target ∧ g.start < b.start ∧ b.start ≤ now)
            ∧ (low → t.store.lowArmed = false) ∧ (¬ low → t.store.lowArmed = s.store.lowArmed)))

/-- R89 to R91, R75: in an enabled mode with the Axis Parameter Set VALID, every demand of a set axis leaves within its
axis's limits, the EL demand at or above the mask of the sector of the AZ position of the same frame while the Horizon
Mask is VALID, and, where no position clamp has moved it, within one step of floor(vmax / 200) of the last demand. While
AZ is unset its position in the frame is 0 (log 26). -/
def Obligations.EveryDemandLeavesWithinItsLimits : Prop :=
  ∀ (dt : Nat) (az el rot : AxisParams) (s : State), (advance dt s).now % 5000 = 0 →
    s.traj.nextExpiry ≤ (advance dt s).now → s.mode.mode.isEnabled = true →
    s.tables.paramsStatus = .valid → s.tables.params = [az, el, rot] →
    (s.tables.maskStatus = .valid → s.tables.mask.length = 72 ∧ ∀ v ∈ s.tables.mask, v ≤ el.upper) →
    az.lower < az.upper → el.lower < el.upper → rot.lower < rot.upper → 0 ≤ el.upper →
    ∃ t f, exec (.demandExpiry dt) s = .next t ∧ t.bus.frame = some f ∧
      let limits : Tri AxisParams := ⟨az, el, rot⟩
      let masked := if s.tables.maskStatus = .valid then
        s.tables.mask.getD ((f.pos.az % 1296000000) / 18000000).toNat 0 else 0
      let floor := fun i : Axis => if i = .el then max el.lower masked else (limits.get i).lower
      ∀ i l, (s.traj.axes.get i).last = some l →
        floor i ≤ f.pos.get i ∧ f.pos.get i ≤ (limits.get i).upper
        ∧ (f.pos.get i ≠ floor i → f.pos.get i ≠ (limits.get i).upper → 0 ≤ (limits.get i).vmax →
            (f.pos.get i - l).natAbs ≤ ((limits.get i).vmax / 200).toNat)

/-! ## Guiding -/

/-- R106 to R108, R17, R110, R112, R115: an accepted GUIDE CORRECTION moves each offset by the scaled step held within
the step maximum, the new offset held within the total maximum; it counts the correction, and one saturation when any
clamp bites, and makes the state GUIDING for 3 s, with the state, the offsets, the applied steps, the clamps and the
counters in its reply. The silence timer's expiry makes the guide state LOST with its offsets as they stand, and with
guide mode REQUIRED starts the lost timer for 9 s after it. -/
def Obligations.CorrectionsMoveTheOffsetsAndSilenceLosesTheGuide : Prop :=
  (∀ (dt : Nat) (e : Entry) (a b c : AxisParams) (f : Frame) (s : State), Requested 18 f s →
      f.payload.length = 12 →
      let target := fieldNat f.payload 0 2
      let seq := BitVec.ofNat 16 (fieldNat f.payload 2 2)
      let hold := fun (m v : Int) => max (-m) (min m v)
      let scaled := fun (p : AxisParams) (d : Int) => nearest ((p.gain : Int) * d) 1000
      let summed := fun (p : AxisParams) (old d : Int) => old + hold p.stepMax (scaled p d)
      let az := fieldInt f.payload 4 4
      let el := fieldInt f.payload 8 4
      let newAz := hold a.totalMax (summed a s.guide.azOffset az)
      let newEl := hold b.totalMax (summed b s.guide.elOffset el)
      let bites := [decide (a.stepMax < (scaled a az).natAbs),
        decide (a.totalMax < (summed a s.guide.azOffset az).natAbs), decide (b.stepMax < (scaled b el).natAbs),
        decide (b.totalMax < (summed b s.guide.elOffset el).natAbs)]
      target ≠ 0 → -60000 ≤ az → az ≤ 60000 → -60000 ≤ el → el ≤ 60000 → s.seq.active = some e → e.id = target →
      s.seq.atr.phase = .tracking → s.guide.mode ≠ .none → s.guide.phase ≠ .suspended →
      (∀ old, s.guide.lastSeq = some old → 1 ≤ (seq - old).toNat ∧ (seq - old).toNat ≤ 32767) →
      s.tables.paramsStatus = .valid → s.tables.params = [a, b, c] →
      0 ≤ a.stepMax → 0 ≤ a.totalMax → 0 ≤ b.stepMax → 0 ≤ b.totalMax →
      ∃ t, exec (.guideCorrection dt) s = .next t
        ∧ Effect f .ok (beOctets 1 2 ++ encInt 4 newAz ++ encInt 4 newEl ++ encInt 4 (newAz - s.guide.azOffset)
            ++ encInt 4 (newEl - s.guide.elOffset) ++ encMarks bites ++ encNat 2 t.guide.corrections
            ++ encNat 2 t.guide.saturations)
          (if s.guide.phase = .guiding then [] else [.guideChanged])
          [.store, .planner, .traj, .bus, .gust, .mode, .tables] (advance dt s) t
        ∧ t.guide = { s.guide with
            azOffset := newAz, elOffset := newEl, lastSeq := some seq, phase := .guiding
            corrections := if s.guide.corrections < 65535 then s.guide.corrections + 1 else 65535
            saturations := if bites.any id then
              (if s.guide.saturations < 65535 then s.guide.saturations + 1 else 65535) else s.guide.saturations
            silenceTimer := some ((advance dt s).now + 3000000), acquireTimer := none, lostTimer := none }
        ∧ t.seq = { s.seq with atr := { s.seq.atr with
            corrections := t.guide.corrections, saturations := t.guide.saturations } })
  ∧ (∀ (dt e : Nat) (s : State), s.guide.silenceTimer = some e → e ≤ (advance dt s).now →
        ∃ t, exec (.silenceTimer dt) s = .next t
          ∧ Event (if s.guide.phase = .lost then [] else [.guideChanged])
              [.seq, .store, .planner, .traj, .bus, .gust, .mode, .tables] (advance dt s) t
          ∧ t.guide = { s.guide with
              phase := .lost, silenceTimer := none
              lostTimer := if s.guide.mode = .required then some (e + 9000000) else s.guide.lostTimer })

/-! ## The Axis Bus -/

/-- R123, R124: a corrupted report is counted for the bus and a stale one for its axis, each up to 65,535, and neither
changes anything else. A report is corrupted when its check differs, and stale when no unanswered entry of its axis's
history carries its sequence. -/
def Obligations.CorruptedAndStaleReportsAreOnlyCounted : Prop :=
  ∀ (dt : Nat) (octets : List Byte) (s : State),
    let others := [Part.link, .seq, .store, .planner, .traj, .guide, .gust, .mode, .tables]
    (receiveReport octets = none → ∃ t, exec (.encoderReport dt octets) s = .next t
      ∧ Keeps others (advance dt s) t
      ∧ t.bus = { s.bus with
          corrupted := if s.bus.corrupted < 65535 then s.bus.corrupted + 1 else 65535 })
    ∧ (∀ (body : List Byte) (c : BitVec 16), body.length = 10 → c ≠ crc16 0xFFFF body →
        receiveReport (stuff (body ++ checkOctets c)) = none)
    ∧ (∀ r, receiveReport octets = some r →
        (∀ h ∈ (s.bus.axes.get r.axis).history, h.seq = r.echo → h.answered = true) →
        ∃ t, exec (.encoderReport dt octets) s = .next t ∧ Keeps others (advance dt s) t
          ∧ (∀ i, i ≠ r.axis → t.bus.axes.get i = s.bus.axes.get i)
          ∧ t.bus.axes.get r.axis = { s.bus.axes.get r.axis with
              stale := if (s.bus.axes.get r.axis).stale < 65535 then (s.bus.axes.get r.axis).stale + 1
                else 65535 }
          ∧ t.bus = { s.bus with axes := t.bus.axes })

/-- R125, R73, R126: a matched report marks its entry answered and sets its axis's record: the following error is the
entry's position less the measured one, or absent; no other axis changes, and an unset axis takes the measured
position as its demands. The report then goes to the Mode Controller, to the Sequencer where it carries a following
error, and to the Load Monitor, in this order. R129 to R131: at the Mode Controller a new axis problem takes an enabled
mount into FAULT, latches AXIS_PROBLEM in PARKED and STOWED and does nothing in FAULT. R172, R180, R170: in ENABLING a
report of an enabled drive sets its axis's mark, and the third mark makes the mode READY and, with the strap low, enters
supervision. R176: while a motion settles a report of a planned axis is counted, and the one that leaves every planned
axis at 20 makes the mode PARKED or STOWED, releases gust level 1 and ends a gust rest (R142, R149); no other report
changes anything. -/
def Obligations.AMatchedReportSetsItsAxis : Prop :=
  (∀ (dt : Nat) (octets : List Byte) (r : Report) (h : HistEntry) (s : State),
    receiveReport octets = some r →
    matchEntry (s.bus.axes.get r.axis).history r.echo = some h →
    let b : AxisRec := { s.bus.axes.get r.axis with
      history := (s.bus.axes.get r.axis).history.map
        (fun x => if x.seq = r.echo then { x with answered := true } else x)
      measured := some r.measured, error := h.pos.map (fun p => p - r.measured), echo := some r.echo
      drive := some r.drive, brake := some r.brake, heard := true, silence := 0
      state := if r.drive = .fault then .driveFault else .ok }
    let a := s.traj.axes.get r.axis
    let problem := decide (r.drive = .fault ∧ (s.bus.axes.get r.axis).state ≠ .driveFault)
    let u := ((advance dt s).setBus { s.bus with axes := s.bus.axes.set r.axis b }).setTraj { s.traj with
      axes := if a.last = none then
        s.traj.axes.set r.axis { a with last := some r.measured, prev := some r.measured } else s.traj.axes }
    let v := modeReport r.axis r.drive b.error problem u
    ∃ t, exec (.encoderReport dt octets) s = .next t
      ∧ (b.error = none → t = judgeCheck r.axis r.drive v)
      ∧ (∀ fe, b.error = some fe →
          t = judgeCheck r.axis r.drive (judgeLevels r.axis fe (judgeRunaway r.axis fe (seqReport r.axis fe v))))
      ∧ t.tables = s.tables ∧ t.bus.seq = s.bus.seq ∧ t.bus.corrupted = s.bus.corrupted
      ∧ t.bus.frame = s.bus.frame
      ∧ (∀ i, i ≠ r.axis → t.bus.axes.get i = s.bus.axes.get i)
      ∧ t.bus.axes.get r.axis = b
      ∧ ((s.traj.axes.get r.axis).last = none → (t.traj.axes.get r.axis).last = some r.measured
          ∧ (t.traj.axes.get r.axis).prev = some r.measured)
      ∧ (RunLaw s → WatchLaw s → s.mode.mode.isEnabled = true → r.drive = .fault →
          (s.bus.axes.get r.axis).state ≠ .driveFault → t.mode.mode = .fault ∧ t.mode.alerts.axis = true))
  ∧ (∀ (i : Axis) (drive : DriveState) (fe : Option Int) (s : State), WatchLaw s →
        let t := modeReport i drive fe true s
        (s.mode.mode = .parked ∨ s.mode.mode = .stowed → Event [.axisProblem] Part.owners s t)
        ∧ (s.mode.mode = .fault → t = s)
        ∧ (s.mode.mode.isEnabled = true → RunLaw s → t.mode.mode = .fault ∧ t.mode.alerts.axis = true))
  ∧ (∀ (i : Axis) (drive : DriveState) (fe : Option Int) (s : State), WatchLaw s → s.mode.mode = .enabling →
        let t := modeReport i drive fe false s
        let marks := s.mode.enabled.set i true
        let all := ∀ j, marks.get j = true
        let ready := { s.mode with mode := .ready, enabled := marks, enablingTimer := none }
        (drive ≠ .enabled → t = s)
        ∧ (drive = .enabled → ¬ all → t = s.setMode { s.mode with enabled := marks })
        ∧ (drive = .enabled → all →
            Event [.modeChanged] [.seq, .store, .planner, .traj, .guide, .bus, .gust, .tables] s t
            ∧ t.mode = (if s.mode.strapHigh = true then ready else { ready with
                supervision := .initial, toggle := false, period := 2000000, consecutive := 0
                lastCounted := none, supTimer := some (s.now + 10000000) })))
  ∧ (∀ (i : Axis) (drive : DriveState) (fe : Option Int) (s : State), s.mode.mode ≠ .enabling →
        let t := modeReport i drive fe false s
        let planned := s.mode.mode = .stowing → i = .el
        (¬ (s.mode.settle = .counting ∧ planned ∧ fe.isSome = true) → t = s)
        ∧ (∀ e, fe = some e → s.mode.settle = .counting → planned →
            let n := if e.natAbs ≤ ((params s).get i).settleTol then min (s.mode.settleCount.get i + 1) 20 else 0
            let c := s.mode.settleCount.set i n
            let settled := ∀ j, (s.mode.mode = .stowing → j = .el) → c.get j = 20
            let kind := if s.mode.mode = .stowing then PlanKind.stow else .park
            (¬ settled → t = s.setMode { s.mode with settleCount := c })
            ∧ (settled → (s.mode.mode = .parking ∨ s.mode.mode = .stowing) →
                RunLaw s ∨ (s.gust.level = .none ∧ s.gust.rest = .none) →
                let released := s.gust.level = .l1
                let rested := s.gust.rest ≠ .none
                let unsuspended := released ∧ s.guide.phase = .suspended
                let calm := if rested ∧ s.gust.stowHeld = false then { s.mode.alerts with gust := false }
                  else s.mode.alerts
                Event (.modeChanged :: if unsuspended then [.guideChanged] else []) [.store, .tables] s t
                ∧ t.mode = { s.mode with
                    mode := if s.mode.mode = .stowing then .stowed else .parked
                    settle := .off, settleDeadline := none, settleCount := ⟨0, 0, 0⟩, motionStart := none
                    alerts := if s.mode.mode = .stowing then { calm with stow := true }
                      else { calm with stow := false, supervision := false } }
                ∧ t.planner = { s.planner with
                    running := s.planner.running.map (unmarked kind)
                    waiting := s.planner.waiting.filter (fun r => r.kind != kind) }
                ∧ (s.planner.waiting = none ∨ s.planner.running.isSome = true → t.traj = s.traj)
                ∧ t.seq = { s.seq with holds := { s.seq.holds with
                    gustL1 := if released then false else s.seq.holds.gustL1
                    gustRest := if rested then false else s.seq.holds.gustRest } }
                ∧ t.guide = { s.guide with
                    suspendFlag := if released then false else s.guide.suspendFlag
                    phase := if unsuspended then .waiting else s.guide.phase
                    acquireTimer := if unsuspended ∧ s.guide.mode = .required then some (s.now + 30000000)
                      else s.guide.acquireTimer }
                ∧ t.bus = { s.bus with override := if rested then .none else s.bus.override }
                ∧ t.gust = { s.gust with
                    level := .none, rest := .none
                    restTimer := if rested then none else s.gust.restTimer
                    checkTimer := if rested then none else s.gust.checkTimer
                    axes := if released then s.gust.axes.map (fun a => { a with release := 0 })
                      else s.gust.axes })))

/-! ## Following error and gust protection -/

/-- R137 to R142, R177: a report above the runaway threshold, taken with the drives commanded enabled, raises its
axis's counter, any other sets it to 0, and the third in a row takes the mount into FAULT and clears every counter. A
report judged in a context updates its axis's three counters against the ascending thresholds; where no warning is
armed, no level stands and none is reached, nothing else changes. Outside both contexts the counters become 0. The third
report above warn disarms the arm and latches GUST_WARN; the third above L1 enters level 1 where none stands; the third
above L2 is a level-2 event; and while level 1 stands the report raises or clears its axis's release counter, and
releases the level when every axis's stands at 1,000. That a level is judged on the counter of the report's own axis is
the model's reading (log 18). -/
def Obligations.ReportsAreCountedForRunawayAndLevels : Prop :=
  (∀ (i : Axis) (fe : Int) (a b c : AxisParams) (s : State), s.tables.paramsStatus = .valid →
      s.tables.params = [a, b, c] →
      let above := s.mode.mode.isEnabled = true ∧ s.bus.override ≠ .active
        ∧ ((⟨a, b, c⟩ : Tri AxisParams).get i).runaway < fe.natAbs
      let t := judgeRunaway i fe s
      (¬ above → t = setAxisGust i { s.gust.axes.get i with runaway := 0 } s)
      ∧ (above → (s.gust.axes.get i).runaway < 2 →
          t = setAxisGust i { s.gust.axes.get i with runaway := (s.gust.axes.get i).runaway + 1 } s)
      ∧ (above → 2 ≤ (s.gust.axes.get i).runaway → t.mode.mode = .fault ∧ t.mode.alerts.axis = true
          ∧ LinkGrows s t ∧ ∀ j, (t.gust.axes.get j).runaway = 0))
  ∧ (∀ (i : Axis) (fe : Int) (a b c : AxisParams) (s : State), s.tables.paramsStatus = .valid →
        s.tables.params = [a, b, c] →
        let p := (⟨a, b, c⟩ : Tri AxisParams).get i
        let g := s.gust.axes.get i
        let m := fe.natAbs
        let count := fun (threshold n : Nat) => if threshold < m then min (n + 1) 3 else 0
        let tracking := s.seq.atr.phase = .tracking
        let resting := (s.mode.mode = .ready ∨ s.mode.mode = .observing) ∧ s.seq.atr.phase = .none
          ∧ (∀ j, (s.traj.axes.get j).motion = .hold) ∧ s.bus.override = .none ∧ s.gust.rest = .none
        let counted := setAxisGust i { g with
          warn := count p.warn g.warn, l1 := count p.l1 g.l1, l2 := count p.l2 g.l2
          warnArmed := if m ≤ p.warn then true else g.warnArmed } s
        g.warn ≤ 3 → g.l1 ≤ 3 → g.l2 ≤ 3 →
        (¬ (tracking ∨ resting) → judgeLevels i fe s = setAxisGust i { g with warn := 0, l1 := 0, l2 := 0 } s)
        ∧ ((tracking ∨ resting) → s.gust.level = .none → count p.l1 g.l1 < 3 → count p.l2 g.l2 < 3 →
            (count p.warn g.warn < 3 ∨ (g.warnArmed = false ∧ p.warn < m)) → judgeLevels i fe s = counted)
        ∧ ((tracking ∨ resting) → ∃ w,
            (count p.warn g.warn = 3 → g.warnArmed = true →
              Event [.gustWarn] [.seq, .store, .planner, .traj, .guide, .bus, .mode, .tables] counted w
              ∧ w.gust = { counted.gust with
                  axes := counted.gust.axes.set i { counted.gust.axes.get i with warnArmed := false } })
            ∧ (count p.warn g.warn ≠ 3 ∨ g.warnArmed = false → w = counted)
            ∧ let x := if s.gust.level = .none ∧ count p.l1 g.l1 = 3 then enterLevelOne w else w
              let y := if count p.l2 g.l2 = 3 then levelTwo x else x
              let quiet := if m ≤ p.l1 then min ((y.gust.axes.get i).release + 1) 1000 else 0
              let z := setAxisGust i { y.gust.axes.get i with release := quiet } y
              (y.gust.level = .none → judgeLevels i fe s = y)
              ∧ (y.gust.level = .l1 → (∀ j, (z.gust.axes.get j).release = 1000) →
                  judgeLevels i fe s = releaseLevel z)
              ∧ (y.gust.level = .l1 → (∃ j, (z.gust.axes.get j).release ≠ 1000) → judgeLevels i fe s = z)))

/-- R141, R113, R143 to R145, R22: entering level 1 clears the release counters, holds the list with GUST_L1, suspends
a WAITING, GUIDING or LOST guide with its offsets held and its timers stopped, and latches GUST_L1. A level-2 event
counts, restarts the decay timer, clears the threshold counters, holds the list with GUST_REST, ends an observation
under way GUST and sets the GUST cause; below a count of 5 it begins a gust rest of 60 s with the axes braking and the
override ARMED, and at 5 it stows the mount and takes the reason away again. R142, R114, R10: the release of level 1
clears the release counters and the guide's flag, makes a SUSPENDED guide WAITING with a fresh acquire timer where the
guide mode is REQUIRED, and takes GUST_L1 out of the hold-reason set, with selection or preemption where that empties
it; without level 1 it does nothing. -/
def Obligations.LevelsOneAndTwoAreEntered : Prop :=
  (∀ s : State,
      let guided := s.guide.phase = .waiting ∨ s.guide.phase = .guiding ∨ s.guide.phase = .lost
      let t := enterLevelOne s
      Event (.gustL1 :: if s.guide.phase = .waiting ∨ s.guide.phase = .guiding ∨ s.guide.phase = .lost
          then [.guideChanged] else []) [.store, .planner, .traj, .bus, .mode, .tables] s t
        ∧ t.gust.level = .l1 ∧ (∀ i, (t.gust.axes.get i).release = 0)
        ∧ t.seq = { s.seq with holds := { s.seq.holds with gustL1 := true } }
        ∧ t.guide.suspendFlag = true
        ∧ t.guide.azOffset = s.guide.azOffset ∧ t.guide.elOffset = s.guide.elOffset
        ∧ (guided → t.guide.phase = .suspended ∧ t.guide.silenceTimer = none
            ∧ t.guide.acquireTimer = none ∧ t.guide.lostTimer = none)
        ∧ (¬ guided → t.guide.phase = s.guide.phase))
  ∧ (∀ s : State, RunLaw s → ListLaw s → (s.mode.mode = .ready ∨ s.mode.mode = .observing) → s.gust.rest = .none →
        s.gust.count ≤ 4 →
        let t := levelTwo s
        LinkGrows s t
          ∧ s.link.mask &&& EventKind.gustL2.word = t.link.events &&& (s.link.mask &&& EventKind.gustL2.word)
          ∧ t.tables = s.tables
          ∧ t.gust.count = s.gust.count + 1 ∧ t.gust.decayTimer = some (s.now + 600000000)
          ∧ (∀ i, (t.gust.axes.get i).warn = 0 ∧ (t.gust.axes.get i).l1 = 0 ∧ (t.gust.axes.get i).l2 = 0)
          ∧ t.seq.active = none ∧ t.seq.atr.phase = .none ∧ t.mode.alerts.gust = true
          ∧ t.seq.outcomes = s.seq.outcomes
            ++ (if s.seq.active.isSome then [endRecord .gust false s.seq.atr s.now] else [])
          ∧ (s.gust.count < 4 → t.gust.rest = .braking ∧ t.gust.restTimer = some (s.now + 60000000)
              ∧ t.bus = { s.bus with override := .armed } ∧ t.seq.holds.gustRest = true
              ∧ t.mode.mode = s.mode.mode
              ∧ ∀ i, AxisBraked (s.traj.axes.get i) (t.traj.axes.get i))
          ∧ (s.gust.count = 4 → t.gust.stowHeld = true ∧ t.mode.mode = .stowing ∧ t.mode.alerts.stow = true
              ∧ t.seq.holds.gustRest = false ∧ t.seq.running = false
              ∧ ∃ r, RequestedPlan .stow none s.now t.traj.axes r ∧ PlanPlaced r s t))
  ∧ (∀ s : State,
        let t := releaseLevel s
        (s.gust.level = .none → t = s)
        ∧ (s.gust.level = .l1 → ∃ u,
            Event (if s.guide.phase = .suspended then [.guideChanged] else [])
              [.seq, .store, .planner, .traj, .bus, .mode, .tables] s u
            ∧ u.gust = { s.gust with level := .none, axes := s.gust.axes.map (fun a => { a with release := 0 }) }
            ∧ u.guide = { s.guide with
                suspendFlag := false
                phase := if s.guide.phase = .suspended then .waiting else s.guide.phase
                acquireTimer := if s.guide.phase = .suspended ∧ s.guide.mode = .required
                  then some (s.now + 30000000) else s.guide.acquireTimer }
            ∧ HoldCleared .gustL1 Part.owners u t))

/-- R146, R150, R147: the rest timer's expiry re-enables the drives: the override becomes NONE, every axis takes a
measured-position hold, the marks are cleared, and the check runs for 2 s from the expiry. Each expiry of the decay
timer lowers the gust count by one and restarts the timer for 600 s while the count is above 0; the fall from 5 to 4
clears the stow-held GUST cause. In CHECKING a report of an enabled drive sets its axis's mark, and the third mark ends
the rest: its timers stop, the GUST cause is cleared, and GUST_REST leaves the hold-reason set, with selection or
preemption where that empties it; no other report changes anything. -/
def Obligations.TheGustTimersRestAndDecay : Prop :=
  (∀ (dt e : Nat) (s : State), s.gust.restTimer = some e → e ≤ (advance dt s).now →
      ∃ t, exec (.restTimer dt) s = .next t
        ∧ Keeps [.link, .seq, .store, .planner, .guide, .mode, .tables] (advance dt s) t
        ∧ t.bus = { s.bus with override := .none } ∧ AllHeld (advance dt s) t
        ∧ t.gust = { s.gust with
            axes := s.gust.axes.map (fun a => { a with enabled := false })
            checkTimer := some (e + 2000000), restTimer := none, rest := .checking })
  ∧ (∀ (dt e : Nat) (s : State), s.gust.decayTimer = some e → e ≤ (advance dt s).now → 1 ≤ s.gust.count →
        ∃ t, exec (.decayTimer dt) s = .next t
          ∧ Keeps [.link, .seq, .store, .planner, .traj, .guide, .bus, .tables] (advance dt s) t
          ∧ t.gust = { s.gust with
              count := s.gust.count - 1
              decayTimer := if s.gust.count = 1 then none else some (e + 600000000)
              stowHeld := if s.gust.count = 5 then false else s.gust.stowHeld }
          ∧ t.mode = (if s.gust.count = 5 then
              { (advance dt s).mode with alerts := { s.mode.alerts with gust := false } }
            else (advance dt s).mode))
  ∧ (∀ (i : Axis) (drive : DriveState) (s : State),
        let t := judgeCheck i drive s
        let marked := setAxisGust i { s.gust.axes.get i with enabled := true } s
        let all := ∀ j, (marked.gust.axes.get j).enabled = true
        (s.gust.rest ≠ .checking ∨ drive ≠ .enabled → t = s)
        ∧ (s.gust.rest = .checking → drive = .enabled → ¬ all → t = marked)
        ∧ (s.gust.rest = .checking → drive = .enabled → all →
            let rested := marked.setGust { marked.gust with rest := .none, restTimer := none, checkTimer := none }
            HoldCleared .gustRest [.seq, .store, .planner, .traj, .guide, .bus, .gust, .tables] rested t
            ∧ t.mode = { s.mode with alerts := { s.mode.alerts with gust := false } }))

/-! ## Loaded tables -/

/-- R157, R156: LOAD BEGIN of a table with its own size, with no load open and in a mode that loads it, makes the
table LOADING with no record and creates the load record; otherwise it is refused RANGE, BUSY or WRONG_MODE, in this
order. -/
def Obligations.LoadBeginOpensALoad : Prop :=
  ∀ (dt n : Nat) (f : Frame) (s : State), Requested 19 f s → f.payload.length = 3 →
    fieldNat f.payload 0 1 = n →
    let size := if n = 0 then 3 else if n = 1 then 240 else 72
    let mode := s.mode.mode = .parked ∨ (n ≠ 0 ∧ s.mode.mode = .ready)
    let refused := fun code => ∃ t, exec (.loadBegin dt) s = .next t
      ∧ Effect f code [] [] Part.owners (advance dt s) t
    ((2 < n ∨ fieldNat f.payload 1 2 ≠ size) → refused .range)
    ∧ (n ≤ 2 → fieldNat f.payload 1 2 = size → s.tables.load.isSome = true → refused .busy)
    ∧ (n ≤ 2 → fieldNat f.payload 1 2 = size → s.tables.load = none → ¬ mode → refused .wrongMode)
    ∧ (n ≤ 2 → fieldNat f.payload 1 2 = size → s.tables.load = none → mode → ∃ t,
        exec (.loadBegin dt) s = .next t
        ∧ Effect f .ok [] [] [.seq, .store, .planner, .traj, .guide, .bus, .gust, .mode] (advance dt s) t
        ∧ t.tables.load = some ⟨if n = 0 then .params else if n = 1 then .grid else .mask, size, 0, 0, 0, 0,
            0xC3A5, .none⟩
        ∧ t.tables.lastLoad = s.tables.lastLoad
        ∧ t.tables.params = (if n = 0 then [] else s.tables.params)
        ∧ t.tables.grid = (if n = 1 then [] else s.tables.grid)
        ∧ t.tables.mask = (if n = 2 then [] else s.tables.mask)
        ∧ t.tables.paramsStatus = (if n = 0 then .loading else s.tables.paramsStatus)
        ∧ t.tables.gridStatus = (if n = 1 then .loading else s.tables.gridStatus)
        ∧ t.tables.maskStatus = (if n = 2 then .loading else s.tables.maskStatus))

/-- R158, R159, R160, R201: LOAD DATA is refused NOT_LOADING without a load, BAD_LENGTH for a count or payload that
does not fit, and OVERLONG, with its mark as the first error, for a burst that would pass 64; otherwise its records
are fed to the check and stored in order of arrival up to the declared count, the rest counted as excess. LOAD BURST
END compares the register with the sender's value, records a first CRC error where they differ, and opens the next
burst. -/
def Obligations.LoadDataAndBurstEndFillALoad : Prop :=
  (∀ (dt n : Nat) (f : Frame) (s : State), Requested 20 f s → 1 ≤ f.payload.length →
      fieldNat f.payload 0 1 = n →
      let others := [Part.seq, .store, .planner, .traj, .guide, .bus, .gust, .mode]
      (s.tables.load = none → ∃ t, exec (.loadData dt) s = .next t
        ∧ Effect f .notLoading [] [] Part.owners (advance dt s) t)
      ∧ ∀ r, s.tables.load = some r →
        let size := recordSize r.table
        let fits := 1 ≤ n ∧ n ≤ 8 ∧ f.payload.length = 1 + n * size
        (¬ fits → ∃ t, exec (.loadData dt) s = .next t
          ∧ Effect f .badLength [] [] Part.owners (advance dt s) t)
        ∧ (fits → 64 < r.burstCount + n → ∃ t, exec (.loadData dt) s = .next t
          ∧ Effect f .overlong [] [] others (advance dt s) t
          ∧ t.tables = { s.tables with load := some { r with
              firstError := if r.firstError = .none then .overlong r.burst else r.firstError } })
        ∧ (fits → r.burstCount + n ≤ 64 → r.stored ≤ r.declared → r.declared ≤ 240 →
          let room := min n (r.declared - r.stored)
          let excess := r.excess + (n - room)
          let rest := f.payload.drop 1
          let records := (List.range room).map (fun k => (rest.drop (k * size)).take size)
          ∃ t r', exec (.loadData dt) s = .next t
          ∧ Effect f .ok (encNat 2 r'.stored ++ encNat 2 r'.excess ++ encNat 1 r'.burstCount) [] others
              (advance dt s) t
          ∧ t.tables = { s.tables with
              load := some r', params := t.tables.params, grid := t.tables.grid, mask := t.tables.mask }
          ∧ r' = { r with
              stored := r.stored + room, burstCount := r.burstCount + n, check := crc16 r.check rest
              excess := r'.excess }
          ∧ (r.excess ≤ 65535 → r'.excess = min excess 65535)
          ∧ (r.table = .params → t.tables.params = s.tables.params ++ records.map readParams
              ∧ t.tables.grid = s.tables.grid ∧ t.tables.mask = s.tables.mask)
          ∧ (r.table = .grid → t.tables.grid = s.tables.grid ++ records.map readNode
              ∧ t.tables.params = s.tables.params ∧ t.tables.mask = s.tables.mask)
          ∧ (r.table = .mask → t.tables.mask = s.tables.mask ++ records.map readSector
              ∧ t.tables.params = s.tables.params ∧ t.tables.grid = s.tables.grid)))
  ∧ (∀ (dt : Nat) (f : Frame) (s : State), Requested 21 f s → f.payload.length = 2 →
        (s.tables.load = none → ∃ t, exec (.loadBurstEnd dt) s = .next t
          ∧ Effect f .notLoading [] [] Part.owners (advance dt s) t)
        ∧ ∀ r, s.tables.load = some r →
          let agreed := decide (r.check.toNat = fieldNat f.payload 0 2)
          let first := if r.firstError = .none ∧ agreed = false then FirstError.crc r.burst else r.firstError
          ∃ t, exec (.loadBurstEnd dt) s = .next t
            ∧ Effect f .ok (encFlag agreed ++ encNat 2 r.burst ++ beOctets 1 first.code ++ encNat 2 first.burst)
              [] [.seq, .store, .planner, .traj, .guide, .bus, .gust, .mode] (advance dt s) t
            ∧ t.tables = { s.tables with load := some { r with
                firstError := first, burst := if r.burst < 65535 then r.burst + 1 else 65535
                burstCount := 0, check := 0xC3A5 } })

/-- R161 to R164, R168, R154: LOAD END judges the load by its open burst, its first error, its count and its validation,
makes the table VALID for OK and INVALID otherwise, and latches LOAD_FINISHED; LOAD ABORT makes it INVALID without
judging it. Both keep the records, end the load and set the last load result, and are refused NOT_LOADING without a
load. Validation names the first record that breaks its table's conditions, the EL limit and the mask held against each
other where the other table is VALID, and none where every record meets them. -/
def Obligations.LoadEndAndAbortFinishTheLoad : Prop :=
  (∀ (dt : Nat) (f : Frame) (s : State), f.payload = [] →
    let others := [Part.seq, .store, .planner, .traj, .guide, .bus, .gust, .mode]
    let finished := fun (r : LoadRec) (res : LoadResult) (t : State) =>
      t.tables = { s.tables.setStatus r.table (if res = .ok then .valid else .invalid) with
        load := none, lastLoad := some ⟨r.table, res, r.stored, r.excess⟩ }
    (s.tables.load = none →
      (Requested 22 f s → ∃ t, exec (.loadEnd dt) s = .next t
        ∧ Effect f .notLoading [] [] Part.owners (advance dt s) t)
      ∧ (Requested 23 f s → ∃ t, exec (.loadAbort dt) s = .next t
        ∧ Effect f .notLoading [] [] Part.owners (advance dt s) t))
    ∧ ∀ r, s.tables.load = some r →
      (Requested 23 f s → ∃ t, exec (.loadAbort dt) s = .next t
        ∧ Effect f .ok [] [] others (advance dt s) t ∧ finished r .aborted t)
      ∧ (Requested 22 f s → ∃ t res, exec (.loadEnd dt) s = .next t
        ∧ Effect f .ok (beOctets 1 res.code ++ encNat 2 res.detail ++ encNat 2 r.stored ++ encNat 2 r.excess)
          [.loadFinished] others (advance dt s) t
        ∧ finished r res t
        ∧ (r.firstError = .none → 0 < r.burstCount → res = .crc r.burst)
        ∧ (∀ n, r.firstError = .crc n → res = .crc n) ∧ (∀ n, r.firstError = .overlong n → res = .overlong n)
        ∧ (r.firstError = .none → r.burstCount = 0 → r.stored < r.declared → res = .short)
        ∧ (r.firstError = .none → r.burstCount = 0 → r.declared ≤ r.stored →
            (∀ k, validateTable r.table (advance dt s) = some k → res = .validation k)
            ∧ (validateTable r.table (advance dt s) = none → res = .ok))))
  ∧ (∀ s : State,
        let judged := fun (table : TableId) (ok : Nat → Prop) (size : Nat) =>
          (validateTable table s = none ↔ ∀ k, k < size → ok k)
            ∧ ∀ k, validateTable table s = some k ↔ k < size ∧ ¬ ok k ∧ ∀ j, j < k → ok j
        judged .params (fun k => ∀ p, s.tables.params[k]? = some p →
          p.lower < p.upper
          ∧ (k = 1 → 0 ≤ p.lower ∧ p.upper ≤ 324000000)
          ∧ (k ≠ 1 → -972000000 ≤ p.lower ∧ p.upper ≤ 972000000)
          ∧ 200 ≤ p.vmax ∧ 1 ≤ p.amax ∧ 1 ≤ p.trackRate ∧ p.trackRate ≤ p.vmax
          ∧ 1 ≤ p.settleTol ∧ 1 ≤ p.settleTimeout ∧ 1 ≤ p.warn ∧ p.warn < p.l1 ∧ p.l1 < p.l2 ∧ p.l2 < p.runaway
          ∧ p.lower ≤ p.park ∧ p.park ≤ p.upper ∧ p.lower ≤ p.stow ∧ p.stow ≤ p.upper
          ∧ (k ≠ 2 → p.gain ≤ 1000 ∧ 0 ≤ p.stepMax ∧ 0 ≤ p.totalMax)
          ∧ (k = 1 → s.tables.maskStatus = .valid → ∀ v ∈ s.tables.mask, v ≤ p.upper)) s.tables.params.length
        ∧ judged .grid (fun k => ∀ n, s.tables.grid[k]? = some n →
          ∀ i, -600000 ≤ n.get i ∧ n.get i ≤ 600000) s.tables.grid.length
        ∧ judged .mask (fun k => ∀ v, s.tables.mask[k]? = some v → 0 ≤ v ∧ v ≤ 324000000
          ∧ ∀ a e r, s.tables.paramsStatus = .valid → s.tables.params = [a, e, r] → v ≤ e.upper)
          s.tables.mask.length)

/-- R167: TABLE READ is refused RANGE for a table or an index out of range; otherwise the reply carries the table's
status and the record as it is stored, or reports it absent, in every mode and status; it changes no state. -/
def Obligations.TableReadReturnsTheStoredRecord : Prop :=
  ∀ (dt n k : Nat) (f : Frame) (s : State), Requested 24 f s → f.payload.length = 3 →
    fieldNat f.payload 0 1 = n → fieldNat f.payload 1 2 = k →
    let size := if n = 0 then 3 else if n = 1 then 240 else 72
    let status := if n = 0 then s.tables.paramsStatus else if n = 1 then s.tables.gridStatus
      else s.tables.maskStatus
    let record := if n = 0 then s.tables.params[k]?.map writeParams
      else if n = 1 then s.tables.grid[k]?.map (fun x => encInt 4 x.az ++ encInt 4 x.el ++ encInt 4 x.rot)
      else s.tables.mask[k]?.map (encInt 4)
    ((2 < n ∨ size ≤ k) → ∃ t, exec (.tableRead dt) s = .next t
      ∧ Effect f .range [] [] Part.owners (advance dt s) t)
    ∧ (n ≤ 2 → k < size → ∃ t, exec (.tableRead dt) s = .next t
      ∧ Effect f .ok (beOctets 1 status.code ++ (match record with
          | some octets => 1 :: octets
          | none => [0])) [] Part.owners (advance dt s) t)
end

