-- ==== Sys2Proof/Laws/State.lean ====
section
/-! SUPPORT. One lemma for each field of the state and each replacement of a unit's state. -/

namespace Sys2Proof.Machine

@[simp] theorem State.setPending_pending (s : State) (x : List Instr) : (s.setPending x).pending = x := rfl
@[simp] theorem State.setPending_link (s : State) (x : List Instr) : (s.setPending x).link = s.link := rfl
@[simp] theorem State.setPending_seq (s : State) (x : List Instr) : (s.setPending x).seq = s.seq := rfl
@[simp] theorem State.setPending_store (s : State) (x : List Instr) : (s.setPending x).store = s.store := rfl
@[simp] theorem State.setPending_planner (s : State) (x : List Instr) : (s.setPending x).planner = s.planner := rfl
@[simp] theorem State.setPending_traj (s : State) (x : List Instr) : (s.setPending x).traj = s.traj := rfl
@[simp] theorem State.setPending_guide (s : State) (x : List Instr) : (s.setPending x).guide = s.guide := rfl
@[simp] theorem State.setPending_bus (s : State) (x : List Instr) : (s.setPending x).bus = s.bus := rfl
@[simp] theorem State.setPending_gust (s : State) (x : List Instr) : (s.setPending x).gust = s.gust := rfl
@[simp] theorem State.setPending_mode (s : State) (x : List Instr) : (s.setPending x).mode = s.mode := rfl
@[simp] theorem State.setPending_tables (s : State) (x : List Instr) : (s.setPending x).tables = s.tables := rfl
@[simp] theorem State.setPending_draws (s : State) (x : List Instr) : (s.setPending x).draws = s.draws := rfl
@[simp] theorem State.setPending_now (s : State) (x : List Instr) : (s.setPending x).now = s.now := rfl

@[simp] theorem State.setLink_pending (s : State) (x : LinkState) : (s.setLink x).pending = s.pending := rfl
@[simp] theorem State.setLink_link (s : State) (x : LinkState) : (s.setLink x).link = x := rfl
@[simp] theorem State.setLink_seq (s : State) (x : LinkState) : (s.setLink x).seq = s.seq := rfl
@[simp] theorem State.setLink_store (s : State) (x : LinkState) : (s.setLink x).store = s.store := rfl
@[simp] theorem State.setLink_planner (s : State) (x : LinkState) : (s.setLink x).planner = s.planner := rfl
@[simp] theorem State.setLink_traj (s : State) (x : LinkState) : (s.setLink x).traj = s.traj := rfl
@[simp] theorem State.setLink_guide (s : State) (x : LinkState) : (s.setLink x).guide = s.guide := rfl
@[simp] theorem State.setLink_bus (s : State) (x : LinkState) : (s.setLink x).bus = s.bus := rfl
@[simp] theorem State.setLink_gust (s : State) (x : LinkState) : (s.setLink x).gust = s.gust := rfl
@[simp] theorem State.setLink_mode (s : State) (x : LinkState) : (s.setLink x).mode = s.mode := rfl
@[simp] theorem State.setLink_tables (s : State) (x : LinkState) : (s.setLink x).tables = s.tables := rfl
@[simp] theorem State.setLink_draws (s : State) (x : LinkState) : (s.setLink x).draws = s.draws := rfl
@[simp] theorem State.setLink_now (s : State) (x : LinkState) : (s.setLink x).now = s.now := rfl

@[simp] theorem State.setSeq_pending (s : State) (x : SeqState) : (s.setSeq x).pending = s.pending := rfl
@[simp] theorem State.setSeq_link (s : State) (x : SeqState) : (s.setSeq x).link = s.link := rfl
@[simp] theorem State.setSeq_seq (s : State) (x : SeqState) : (s.setSeq x).seq = x := rfl
@[simp] theorem State.setSeq_store (s : State) (x : SeqState) : (s.setSeq x).store = s.store := rfl
@[simp] theorem State.setSeq_planner (s : State) (x : SeqState) : (s.setSeq x).planner = s.planner := rfl
@[simp] theorem State.setSeq_traj (s : State) (x : SeqState) : (s.setSeq x).traj = s.traj := rfl
@[simp] theorem State.setSeq_guide (s : State) (x : SeqState) : (s.setSeq x).guide = s.guide := rfl
@[simp] theorem State.setSeq_bus (s : State) (x : SeqState) : (s.setSeq x).bus = s.bus := rfl
@[simp] theorem State.setSeq_gust (s : State) (x : SeqState) : (s.setSeq x).gust = s.gust := rfl
@[simp] theorem State.setSeq_mode (s : State) (x : SeqState) : (s.setSeq x).mode = s.mode := rfl
@[simp] theorem State.setSeq_tables (s : State) (x : SeqState) : (s.setSeq x).tables = s.tables := rfl
@[simp] theorem State.setSeq_draws (s : State) (x : SeqState) : (s.setSeq x).draws = s.draws := rfl
@[simp] theorem State.setSeq_now (s : State) (x : SeqState) : (s.setSeq x).now = s.now := rfl

@[simp] theorem State.setStore_pending (s : State) (x : StoreState) : (s.setStore x).pending = s.pending := rfl
@[simp] theorem State.setStore_link (s : State) (x : StoreState) : (s.setStore x).link = s.link := rfl
@[simp] theorem State.setStore_seq (s : State) (x : StoreState) : (s.setStore x).seq = s.seq := rfl
@[simp] theorem State.setStore_store (s : State) (x : StoreState) : (s.setStore x).store = x := rfl
@[simp] theorem State.setStore_planner (s : State) (x : StoreState) : (s.setStore x).planner = s.planner := rfl
@[simp] theorem State.setStore_traj (s : State) (x : StoreState) : (s.setStore x).traj = s.traj := rfl
@[simp] theorem State.setStore_guide (s : State) (x : StoreState) : (s.setStore x).guide = s.guide := rfl
@[simp] theorem State.setStore_bus (s : State) (x : StoreState) : (s.setStore x).bus = s.bus := rfl
@[simp] theorem State.setStore_gust (s : State) (x : StoreState) : (s.setStore x).gust = s.gust := rfl
@[simp] theorem State.setStore_mode (s : State) (x : StoreState) : (s.setStore x).mode = s.mode := rfl
@[simp] theorem State.setStore_tables (s : State) (x : StoreState) : (s.setStore x).tables = s.tables := rfl
@[simp] theorem State.setStore_draws (s : State) (x : StoreState) : (s.setStore x).draws = s.draws := rfl
@[simp] theorem State.setStore_now (s : State) (x : StoreState) : (s.setStore x).now = s.now := rfl

@[simp] theorem State.setPlanner_pending (s : State) (x : PlannerState) : (s.setPlanner x).pending = s.pending := rfl
@[simp] theorem State.setPlanner_link (s : State) (x : PlannerState) : (s.setPlanner x).link = s.link := rfl
@[simp] theorem State.setPlanner_seq (s : State) (x : PlannerState) : (s.setPlanner x).seq = s.seq := rfl
@[simp] theorem State.setPlanner_store (s : State) (x : PlannerState) : (s.setPlanner x).store = s.store := rfl
@[simp] theorem State.setPlanner_planner (s : State) (x : PlannerState) : (s.setPlanner x).planner = x := rfl
@[simp] theorem State.setPlanner_traj (s : State) (x : PlannerState) : (s.setPlanner x).traj = s.traj := rfl
@[simp] theorem State.setPlanner_guide (s : State) (x : PlannerState) : (s.setPlanner x).guide = s.guide := rfl
@[simp] theorem State.setPlanner_bus (s : State) (x : PlannerState) : (s.setPlanner x).bus = s.bus := rfl
@[simp] theorem State.setPlanner_gust (s : State) (x : PlannerState) : (s.setPlanner x).gust = s.gust := rfl
@[simp] theorem State.setPlanner_mode (s : State) (x : PlannerState) : (s.setPlanner x).mode = s.mode := rfl
@[simp] theorem State.setPlanner_tables (s : State) (x : PlannerState) : (s.setPlanner x).tables = s.tables := rfl
@[simp] theorem State.setPlanner_draws (s : State) (x : PlannerState) : (s.setPlanner x).draws = s.draws := rfl
@[simp] theorem State.setPlanner_now (s : State) (x : PlannerState) : (s.setPlanner x).now = s.now := rfl

@[simp] theorem State.setTraj_pending (s : State) (x : TrajState) : (s.setTraj x).pending = s.pending := rfl
@[simp] theorem State.setTraj_link (s : State) (x : TrajState) : (s.setTraj x).link = s.link := rfl
@[simp] theorem State.setTraj_seq (s : State) (x : TrajState) : (s.setTraj x).seq = s.seq := rfl
@[simp] theorem State.setTraj_store (s : State) (x : TrajState) : (s.setTraj x).store = s.store := rfl
@[simp] theorem State.setTraj_planner (s : State) (x : TrajState) : (s.setTraj x).planner = s.planner := rfl
@[simp] theorem State.setTraj_traj (s : State) (x : TrajState) : (s.setTraj x).traj = x := rfl
@[simp] theorem State.setTraj_guide (s : State) (x : TrajState) : (s.setTraj x).guide = s.guide := rfl
@[simp] theorem State.setTraj_bus (s : State) (x : TrajState) : (s.setTraj x).bus = s.bus := rfl
@[simp] theorem State.setTraj_gust (s : State) (x : TrajState) : (s.setTraj x).gust = s.gust := rfl
@[simp] theorem State.setTraj_mode (s : State) (x : TrajState) : (s.setTraj x).mode = s.mode := rfl
@[simp] theorem State.setTraj_tables (s : State) (x : TrajState) : (s.setTraj x).tables = s.tables := rfl
@[simp] theorem State.setTraj_draws (s : State) (x : TrajState) : (s.setTraj x).draws = s.draws := rfl
@[simp] theorem State.setTraj_now (s : State) (x : TrajState) : (s.setTraj x).now = s.now := rfl

@[simp] theorem State.setGuide_pending (s : State) (x : GuideState) : (s.setGuide x).pending = s.pending := rfl
@[simp] theorem State.setGuide_link (s : State) (x : GuideState) : (s.setGuide x).link = s.link := rfl
@[simp] theorem State.setGuide_seq (s : State) (x : GuideState) : (s.setGuide x).seq = s.seq := rfl
@[simp] theorem State.setGuide_store (s : State) (x : GuideState) : (s.setGuide x).store = s.store := rfl
@[simp] theorem State.setGuide_planner (s : State) (x : GuideState) : (s.setGuide x).planner = s.planner := rfl
@[simp] theorem State.setGuide_traj (s : State) (x : GuideState) : (s.setGuide x).traj = s.traj := rfl
@[simp] theorem State.setGuide_guide (s : State) (x : GuideState) : (s.setGuide x).guide = x := rfl
@[simp] theorem State.setGuide_bus (s : State) (x : GuideState) : (s.setGuide x).bus = s.bus := rfl
@[simp] theorem State.setGuide_gust (s : State) (x : GuideState) : (s.setGuide x).gust = s.gust := rfl
@[simp] theorem State.setGuide_mode (s : State) (x : GuideState) : (s.setGuide x).mode = s.mode := rfl
@[simp] theorem State.setGuide_tables (s : State) (x : GuideState) : (s.setGuide x).tables = s.tables := rfl
@[simp] theorem State.setGuide_draws (s : State) (x : GuideState) : (s.setGuide x).draws = s.draws := rfl
@[simp] theorem State.setGuide_now (s : State) (x : GuideState) : (s.setGuide x).now = s.now := rfl

@[simp] theorem State.setBus_pending (s : State) (x : BusState) : (s.setBus x).pending = s.pending := rfl
@[simp] theorem State.setBus_link (s : State) (x : BusState) : (s.setBus x).link = s.link := rfl
@[simp] theorem State.setBus_seq (s : State) (x : BusState) : (s.setBus x).seq = s.seq := rfl
@[simp] theorem State.setBus_store (s : State) (x : BusState) : (s.setBus x).store = s.store := rfl
@[simp] theorem State.setBus_planner (s : State) (x : BusState) : (s.setBus x).planner = s.planner := rfl
@[simp] theorem State.setBus_traj (s : State) (x : BusState) : (s.setBus x).traj = s.traj := rfl
@[simp] theorem State.setBus_guide (s : State) (x : BusState) : (s.setBus x).guide = s.guide := rfl
@[simp] theorem State.setBus_bus (s : State) (x : BusState) : (s.setBus x).bus = x := rfl
@[simp] theorem State.setBus_gust (s : State) (x : BusState) : (s.setBus x).gust = s.gust := rfl
@[simp] theorem State.setBus_mode (s : State) (x : BusState) : (s.setBus x).mode = s.mode := rfl
@[simp] theorem State.setBus_tables (s : State) (x : BusState) : (s.setBus x).tables = s.tables := rfl
@[simp] theorem State.setBus_draws (s : State) (x : BusState) : (s.setBus x).draws = s.draws := rfl
@[simp] theorem State.setBus_now (s : State) (x : BusState) : (s.setBus x).now = s.now := rfl

@[simp] theorem State.setGust_pending (s : State) (x : GustState) : (s.setGust x).pending = s.pending := rfl
@[simp] theorem State.setGust_link (s : State) (x : GustState) : (s.setGust x).link = s.link := rfl
@[simp] theorem State.setGust_seq (s : State) (x : GustState) : (s.setGust x).seq = s.seq := rfl
@[simp] theorem State.setGust_store (s : State) (x : GustState) : (s.setGust x).store = s.store := rfl
@[simp] theorem State.setGust_planner (s : State) (x : GustState) : (s.setGust x).planner = s.planner := rfl
@[simp] theorem State.setGust_traj (s : State) (x : GustState) : (s.setGust x).traj = s.traj := rfl
@[simp] theorem State.setGust_guide (s : State) (x : GustState) : (s.setGust x).guide = s.guide := rfl
@[simp] theorem State.setGust_bus (s : State) (x : GustState) : (s.setGust x).bus = s.bus := rfl
@[simp] theorem State.setGust_gust (s : State) (x : GustState) : (s.setGust x).gust = x := rfl
@[simp] theorem State.setGust_mode (s : State) (x : GustState) : (s.setGust x).mode = s.mode := rfl
@[simp] theorem State.setGust_tables (s : State) (x : GustState) : (s.setGust x).tables = s.tables := rfl
@[simp] theorem State.setGust_draws (s : State) (x : GustState) : (s.setGust x).draws = s.draws := rfl
@[simp] theorem State.setGust_now (s : State) (x : GustState) : (s.setGust x).now = s.now := rfl

@[simp] theorem State.setMode_pending (s : State) (x : ModeState) : (s.setMode x).pending = s.pending := rfl
@[simp] theorem State.setMode_link (s : State) (x : ModeState) : (s.setMode x).link = s.link := rfl
@[simp] theorem State.setMode_seq (s : State) (x : ModeState) : (s.setMode x).seq = s.seq := rfl
@[simp] theorem State.setMode_store (s : State) (x : ModeState) : (s.setMode x).store = s.store := rfl
@[simp] theorem State.setMode_planner (s : State) (x : ModeState) : (s.setMode x).planner = s.planner := rfl
@[simp] theorem State.setMode_traj (s : State) (x : ModeState) : (s.setMode x).traj = s.traj := rfl
@[simp] theorem State.setMode_guide (s : State) (x : ModeState) : (s.setMode x).guide = s.guide := rfl
@[simp] theorem State.setMode_bus (s : State) (x : ModeState) : (s.setMode x).bus = s.bus := rfl
@[simp] theorem State.setMode_gust (s : State) (x : ModeState) : (s.setMode x).gust = s.gust := rfl
@[simp] theorem State.setMode_mode (s : State) (x : ModeState) : (s.setMode x).mode = x := rfl
@[simp] theorem State.setMode_tables (s : State) (x : ModeState) : (s.setMode x).tables = s.tables := rfl
@[simp] theorem State.setMode_draws (s : State) (x : ModeState) : (s.setMode x).draws = s.draws := rfl

@[simp] theorem State.setTables_pending (s : State) (x : TableState) : (s.setTables x).pending = s.pending := rfl
@[simp] theorem State.setTables_link (s : State) (x : TableState) : (s.setTables x).link = s.link := rfl
@[simp] theorem State.setTables_seq (s : State) (x : TableState) : (s.setTables x).seq = s.seq := rfl
@[simp] theorem State.setTables_store (s : State) (x : TableState) : (s.setTables x).store = s.store := rfl
@[simp] theorem State.setTables_planner (s : State) (x : TableState) : (s.setTables x).planner = s.planner := rfl
@[simp] theorem State.setTables_traj (s : State) (x : TableState) : (s.setTables x).traj = s.traj := rfl
@[simp] theorem State.setTables_guide (s : State) (x : TableState) : (s.setTables x).guide = s.guide := rfl
@[simp] theorem State.setTables_bus (s : State) (x : TableState) : (s.setTables x).bus = s.bus := rfl
@[simp] theorem State.setTables_gust (s : State) (x : TableState) : (s.setTables x).gust = s.gust := rfl
@[simp] theorem State.setTables_mode (s : State) (x : TableState) : (s.setTables x).mode = s.mode := rfl
@[simp] theorem State.setTables_tables (s : State) (x : TableState) : (s.setTables x).tables = x := rfl
@[simp] theorem State.setTables_draws (s : State) (x : TableState) : (s.setTables x).draws = s.draws := rfl
@[simp] theorem State.setTables_now (s : State) (x : TableState) : (s.setTables x).now = s.now := rfl

@[simp] theorem State.setDraws_pending (s : State) (x : Nat) : (s.setDraws x).pending = s.pending := rfl
@[simp] theorem State.setDraws_link (s : State) (x : Nat) : (s.setDraws x).link = s.link := rfl
@[simp] theorem State.setDraws_seq (s : State) (x : Nat) : (s.setDraws x).seq = s.seq := rfl
@[simp] theorem State.setDraws_store (s : State) (x : Nat) : (s.setDraws x).store = s.store := rfl
@[simp] theorem State.setDraws_planner (s : State) (x : Nat) : (s.setDraws x).planner = s.planner := rfl
@[simp] theorem State.setDraws_traj (s : State) (x : Nat) : (s.setDraws x).traj = s.traj := rfl
@[simp] theorem State.setDraws_guide (s : State) (x : Nat) : (s.setDraws x).guide = s.guide := rfl
@[simp] theorem State.setDraws_bus (s : State) (x : Nat) : (s.setDraws x).bus = s.bus := rfl
@[simp] theorem State.setDraws_gust (s : State) (x : Nat) : (s.setDraws x).gust = s.gust := rfl
@[simp] theorem State.setDraws_mode (s : State) (x : Nat) : (s.setDraws x).mode = s.mode := rfl
@[simp] theorem State.setDraws_tables (s : State) (x : Nat) : (s.setDraws x).tables = s.tables := rfl
@[simp] theorem State.setDraws_draws (s : State) (x : Nat) : (s.setDraws x).draws = x := rfl
@[simp] theorem State.setDraws_now (s : State) (x : Nat) : (s.setDraws x).now = s.now := rfl

@[simp] theorem State.setMode_now (s : State) (x : ModeState) : (s.setMode x).now = x.mountTime := rfl

/-- Two states with the same units are the same state. -/
theorem State.eq_of_units {s t : State} (h0 : s.pending = t.pending) (h1 : s.link = t.link)
    (h2 : s.seq = t.seq) (h3 : s.store = t.store) (h4 : s.planner = t.planner) (h5 : s.traj = t.traj)
    (h6 : s.guide = t.guide) (h7 : s.bus = t.bus) (h8 : s.gust = t.gust) (h9 : s.mode = t.mode)
    (h10 : s.tables = t.tables) (h11 : s.draws = t.draws) : s = t := by
  cases s; cases t; simp_all

end Sys2Proof.Machine
end

