-- ==== Sys2Proof/Laws/Units.lean ====
section
/-! SUPPORT. For each operation shared by the commands, the units it leaves as they are. -/

namespace Sys2Proof.Machine

/-! ## Ops and Flags -/

@[simp] theorem advance_units (dt : Nat) (s : State) :
    (advance dt s).pending = s.pending ∧ (advance dt s).link = s.link ∧ (advance dt s).seq = s.seq ∧
    (advance dt s).store = s.store ∧ (advance dt s).planner = s.planner ∧ (advance dt s).traj = s.traj ∧
    (advance dt s).guide = s.guide ∧ (advance dt s).bus = s.bus ∧ (advance dt s).gust = s.gust ∧
    (advance dt s).tables = s.tables ∧ (advance dt s).draws = s.draws := by
  unfold advance; (repeat' (first | split | dsimp only)) <;> simp

@[simp] theorem buildNotice_units (s : State) :
    (buildNotice s).pending = s.pending ∧ (buildNotice s).seq = s.seq ∧ (buildNotice s).store = s.store ∧
    (buildNotice s).planner = s.planner ∧ (buildNotice s).traj = s.traj ∧ (buildNotice s).guide = s.guide ∧
    (buildNotice s).bus = s.bus ∧ (buildNotice s).gust = s.gust ∧ (buildNotice s).mode = s.mode ∧
    (buildNotice s).tables = s.tables ∧ (buildNotice s).draws = s.draws ∧ (buildNotice s).now = s.now := by
  unfold buildNotice; (repeat' (first | split | dsimp only)) <;> simp

@[simp] theorem latch_units (k : EventKind) (s : State) :
    (latch k s).pending = s.pending ∧ (latch k s).seq = s.seq ∧ (latch k s).store = s.store ∧
    (latch k s).planner = s.planner ∧ (latch k s).traj = s.traj ∧ (latch k s).guide = s.guide ∧
    (latch k s).bus = s.bus ∧ (latch k s).gust = s.gust ∧ (latch k s).mode = s.mode ∧
    (latch k s).tables = s.tables ∧ (latch k s).draws = s.draws ∧ (latch k s).now = s.now := by
  unfold latch; (repeat' (first | split | dsimp only)) <;> simp

@[simp] theorem removeKinds_units (x : BitVec 16) (s : State) :
    (removeKinds x s).pending = s.pending ∧ (removeKinds x s).seq = s.seq ∧ (removeKinds x s).store = s.store ∧
    (removeKinds x s).planner = s.planner ∧ (removeKinds x s).traj = s.traj ∧
    (removeKinds x s).guide = s.guide ∧ (removeKinds x s).bus = s.bus ∧ (removeKinds x s).gust = s.gust ∧
    (removeKinds x s).mode = s.mode ∧ (removeKinds x s).tables = s.tables ∧ (removeKinds x s).draws = s.draws ∧
    (removeKinds x s).now = s.now := by
  unfold removeKinds; (repeat' (first | split | dsimp only)) <;> simp

@[simp] theorem markFrameFault_units (s : State) :
    (markFrameFault s).pending = s.pending ∧ (markFrameFault s).seq = s.seq ∧
    (markFrameFault s).store = s.store ∧ (markFrameFault s).planner = s.planner ∧
    (markFrameFault s).traj = s.traj ∧ (markFrameFault s).guide = s.guide ∧ (markFrameFault s).bus = s.bus ∧
    (markFrameFault s).gust = s.gust ∧ (markFrameFault s).mode = s.mode ∧
    (markFrameFault s).tables = s.tables ∧ (markFrameFault s).draws = s.draws ∧
    (markFrameFault s).now = s.now := by
  unfold markFrameFault; (repeat' (first | split | dsimp only)) <;> simp

@[simp] theorem setAlert_units (c : AlertCause) (b : Bool) (s : State) :
    (setAlert c b s).pending = s.pending ∧ (setAlert c b s).link = s.link ∧ (setAlert c b s).seq = s.seq ∧
    (setAlert c b s).store = s.store ∧ (setAlert c b s).planner = s.planner ∧ (setAlert c b s).traj = s.traj ∧
    (setAlert c b s).guide = s.guide ∧ (setAlert c b s).bus = s.bus ∧ (setAlert c b s).gust = s.gust ∧
    (setAlert c b s).tables = s.tables ∧ (setAlert c b s).draws = s.draws := by
  unfold setAlert; (repeat' (first | split | dsimp only)) <;> simp

@[simp] theorem setMotion_units (i : Axis) (a : AxisMotion) (s : State) :
    (setMotion i a s).pending = s.pending ∧ (setMotion i a s).link = s.link ∧ (setMotion i a s).seq = s.seq ∧
    (setMotion i a s).store = s.store ∧ (setMotion i a s).planner = s.planner ∧
    (setMotion i a s).guide = s.guide ∧ (setMotion i a s).bus = s.bus ∧ (setMotion i a s).gust = s.gust ∧
    (setMotion i a s).mode = s.mode ∧ (setMotion i a s).tables = s.tables ∧ (setMotion i a s).draws = s.draws ∧
    (setMotion i a s).now = s.now := by
  unfold setMotion; (repeat' (first | split | dsimp only)) <;> simp

@[simp] theorem setAxisRec_units (i : Axis) (a : AxisRec) (s : State) :
    (setAxisRec i a s).pending = s.pending ∧ (setAxisRec i a s).link = s.link ∧
    (setAxisRec i a s).seq = s.seq ∧ (setAxisRec i a s).store = s.store ∧
    (setAxisRec i a s).planner = s.planner ∧ (setAxisRec i a s).traj = s.traj ∧
    (setAxisRec i a s).guide = s.guide ∧ (setAxisRec i a s).gust = s.gust ∧ (setAxisRec i a s).mode = s.mode ∧
    (setAxisRec i a s).tables = s.tables ∧ (setAxisRec i a s).draws = s.draws ∧
    (setAxisRec i a s).now = s.now := by
  unfold setAxisRec; (repeat' (first | split | dsimp only)) <;> simp

@[simp] theorem setAxisGust_units (i : Axis) (a : AxisGust) (s : State) :
    (setAxisGust i a s).pending = s.pending ∧ (setAxisGust i a s).link = s.link ∧
    (setAxisGust i a s).seq = s.seq ∧ (setAxisGust i a s).store = s.store ∧
    (setAxisGust i a s).planner = s.planner ∧ (setAxisGust i a s).traj = s.traj ∧
    (setAxisGust i a s).guide = s.guide ∧ (setAxisGust i a s).bus = s.bus ∧ (setAxisGust i a s).mode = s.mode ∧
    (setAxisGust i a s).tables = s.tables ∧ (setAxisGust i a s).draws = s.draws ∧
    (setAxisGust i a s).now = s.now := by
  unfold setAxisGust; (repeat' (first | split | dsimp only)) <;> simp

/-! ## The Segment Store -/

@[simp] theorem retireAt_units (t : Nat) (s : State) :
    (retireAt t s).pending = s.pending ∧ (retireAt t s).link = s.link ∧ (retireAt t s).seq = s.seq ∧
    (retireAt t s).planner = s.planner ∧ (retireAt t s).traj = s.traj ∧ (retireAt t s).guide = s.guide ∧
    (retireAt t s).bus = s.bus ∧ (retireAt t s).gust = s.gust ∧ (retireAt t s).mode = s.mode ∧
    (retireAt t s).tables = s.tables ∧ (retireAt t s).draws = s.draws ∧ (retireAt t s).now = s.now := by
  unfold retireAt; (repeat' (first | split | dsimp only)) <;> simp

@[simp] theorem dropChain_units (id : Nat) (s : State) :
    (dropChain id s).pending = s.pending ∧ (dropChain id s).link = s.link ∧ (dropChain id s).seq = s.seq ∧
    (dropChain id s).planner = s.planner ∧ (dropChain id s).traj = s.traj ∧ (dropChain id s).guide = s.guide ∧
    (dropChain id s).bus = s.bus ∧ (dropChain id s).gust = s.gust ∧ (dropChain id s).mode = s.mode ∧
    (dropChain id s).tables = s.tables ∧ (dropChain id s).draws = s.draws ∧ (dropChain id s).now = s.now := by
  unfold dropChain; (repeat' (first | split | dsimp only)) <;> simp

@[simp] theorem judgeMargin_units (t : Nat) (s : State) :
    (judgeMargin t s).pending = s.pending ∧ (judgeMargin t s).seq = s.seq ∧
    (judgeMargin t s).planner = s.planner ∧ (judgeMargin t s).traj = s.traj ∧
    (judgeMargin t s).guide = s.guide ∧ (judgeMargin t s).bus = s.bus ∧ (judgeMargin t s).gust = s.gust ∧
    (judgeMargin t s).mode = s.mode ∧ (judgeMargin t s).tables = s.tables ∧ (judgeMargin t s).draws = s.draws ∧
    (judgeMargin t s).now = s.now := by
  unfold judgeMargin; (repeat' (first | split | dsimp only)) <;> simp

@[simp] theorem rearmMargin_units (id : Nat) (s : State) :
    (rearmMargin id s).pending = s.pending ∧ (rearmMargin id s).link = s.link ∧
    (rearmMargin id s).seq = s.seq ∧ (rearmMargin id s).planner = s.planner ∧
    (rearmMargin id s).traj = s.traj ∧ (rearmMargin id s).guide = s.guide ∧ (rearmMargin id s).bus = s.bus ∧
    (rearmMargin id s).gust = s.gust ∧ (rearmMargin id s).mode = s.mode ∧
    (rearmMargin id s).tables = s.tables ∧ (rearmMargin id s).draws = s.draws ∧
    (rearmMargin id s).now = s.now := by
  unfold rearmMargin; (repeat' (first | split | dsimp only)) <;> simp

@[simp] theorem placeSegment_units (g : Segment) (s : State) :
    (placeSegment g s).pending = s.pending ∧ (placeSegment g s).link = s.link ∧
    (placeSegment g s).seq = s.seq ∧ (placeSegment g s).planner = s.planner ∧
    (placeSegment g s).traj = s.traj ∧ (placeSegment g s).guide = s.guide ∧ (placeSegment g s).bus = s.bus ∧
    (placeSegment g s).gust = s.gust ∧ (placeSegment g s).mode = s.mode ∧
    (placeSegment g s).tables = s.tables ∧ (placeSegment g s).draws = s.draws ∧
    (placeSegment g s).now = s.now := by
  unfold placeSegment; (repeat' (first | split | dsimp only)) <;> simp

/-! ## Motion and the Slew Planner -/

@[simp] theorem clearClampRuns_units (s : State) :
    (clearClampRuns s).pending = s.pending ∧ (clearClampRuns s).link = s.link ∧
    (clearClampRuns s).seq = s.seq ∧ (clearClampRuns s).store = s.store ∧
    (clearClampRuns s).planner = s.planner ∧ (clearClampRuns s).guide = s.guide ∧
    (clearClampRuns s).bus = s.bus ∧ (clearClampRuns s).gust = s.gust ∧ (clearClampRuns s).mode = s.mode ∧
    (clearClampRuns s).tables = s.tables ∧ (clearClampRuns s).draws = s.draws ∧
    (clearClampRuns s).now = s.now := by
  unfold clearClampRuns; (repeat' (first | split | dsimp only)) <;> simp

@[simp] theorem brakeAll_units (s : State) :
    (brakeAll s).pending = s.pending ∧ (brakeAll s).link = s.link ∧ (brakeAll s).seq = s.seq ∧
    (brakeAll s).store = s.store ∧ (brakeAll s).planner = s.planner ∧ (brakeAll s).guide = s.guide ∧
    (brakeAll s).bus = s.bus ∧ (brakeAll s).gust = s.gust ∧ (brakeAll s).mode = s.mode ∧
    (brakeAll s).tables = s.tables ∧ (brakeAll s).draws = s.draws ∧ (brakeAll s).now = s.now := by
  unfold brakeAll; (repeat' (first | split | dsimp only)) <;> simp

@[simp] theorem brakeProjecting_units (s : State) :
    (brakeProjecting s).pending = s.pending ∧ (brakeProjecting s).link = s.link ∧
    (brakeProjecting s).seq = s.seq ∧ (brakeProjecting s).store = s.store ∧
    (brakeProjecting s).planner = s.planner ∧ (brakeProjecting s).guide = s.guide ∧
    (brakeProjecting s).bus = s.bus ∧ (brakeProjecting s).gust = s.gust ∧ (brakeProjecting s).mode = s.mode ∧
    (brakeProjecting s).tables = s.tables ∧ (brakeProjecting s).draws = s.draws ∧
    (brakeProjecting s).now = s.now := by
  unfold brakeProjecting; (repeat' (first | split | dsimp only)) <;> simp

@[simp] theorem measuredHold_units (s : State) :
    (measuredHold s).pending = s.pending ∧ (measuredHold s).link = s.link ∧ (measuredHold s).seq = s.seq ∧
    (measuredHold s).store = s.store ∧ (measuredHold s).planner = s.planner ∧
    (measuredHold s).guide = s.guide ∧ (measuredHold s).bus = s.bus ∧ (measuredHold s).gust = s.gust ∧
    (measuredHold s).mode = s.mode ∧ (measuredHold s).tables = s.tables ∧ (measuredHold s).draws = s.draws ∧
    (measuredHold s).now = s.now := by
  unfold measuredHold; (repeat' (first | split | dsimp only)) <;> simp

@[simp] theorem requestPlan_units (k : PlanKind) (id : Option Nat) (s : State) :
    (requestPlan k id s).pending = s.pending ∧ (requestPlan k id s).link = s.link ∧
    (requestPlan k id s).seq = s.seq ∧ (requestPlan k id s).store = s.store ∧
    (requestPlan k id s).guide = s.guide ∧ (requestPlan k id s).bus = s.bus ∧
    (requestPlan k id s).gust = s.gust ∧ (requestPlan k id s).mode = s.mode ∧
    (requestPlan k id s).tables = s.tables ∧ (requestPlan k id s).draws = s.draws ∧
    (requestPlan k id s).now = s.now := by
  unfold requestPlan; (repeat' (first | split | dsimp only)) <;> simp

@[simp] theorem withdrawMarks_units (k : PlanKind) (s : State) :
    (withdrawMarks k s).pending = s.pending ∧ (withdrawMarks k s).link = s.link ∧
    (withdrawMarks k s).seq = s.seq ∧ (withdrawMarks k s).store = s.store ∧
    (withdrawMarks k s).guide = s.guide ∧ (withdrawMarks k s).bus = s.bus ∧ (withdrawMarks k s).gust = s.gust ∧
    (withdrawMarks k s).mode = s.mode ∧ (withdrawMarks k s).tables = s.tables ∧
    (withdrawMarks k s).draws = s.draws ∧ (withdrawMarks k s).now = s.now := by
  unfold withdrawMarks; (repeat' (first | split | dsimp only)) <;> simp

@[simp] theorem installProfiles_units (r : PlanRec) (s : State) :
    (installProfiles r s).pending = s.pending ∧ (installProfiles r s).link = s.link ∧
    (installProfiles r s).seq = s.seq ∧ (installProfiles r s).store = s.store ∧
    (installProfiles r s).planner = s.planner ∧ (installProfiles r s).guide = s.guide ∧
    (installProfiles r s).bus = s.bus ∧ (installProfiles r s).gust = s.gust ∧
    (installProfiles r s).mode = s.mode ∧ (installProfiles r s).tables = s.tables ∧
    (installProfiles r s).draws = s.draws ∧ (installProfiles r s).now = s.now := by
  unfold installProfiles; (repeat' (first | split | dsimp only)) <;> simp

@[simp] theorem tellInstalled_units (r : PlanRec) (s : State) :
    (tellInstalled r s).pending = s.pending ∧ (tellInstalled r s).link = s.link ∧
    (tellInstalled r s).store = s.store ∧ (tellInstalled r s).planner = s.planner ∧
    (tellInstalled r s).traj = s.traj ∧ (tellInstalled r s).guide = s.guide ∧ (tellInstalled r s).bus = s.bus ∧
    (tellInstalled r s).gust = s.gust ∧ (tellInstalled r s).tables = s.tables ∧
    (tellInstalled r s).draws = s.draws := by
  unfold tellInstalled; (repeat' (first | split | dsimp only)) <;> simp

@[simp] theorem installPlan_units (r : PlanRec) (s : State) :
    (installPlan r s).pending = s.pending ∧ (installPlan r s).link = s.link ∧
    (installPlan r s).store = s.store ∧ (installPlan r s).guide = s.guide ∧ (installPlan r s).bus = s.bus ∧
    (installPlan r s).gust = s.gust ∧ (installPlan r s).tables = s.tables ∧
    (installPlan r s).draws = s.draws := by
  unfold installPlan; (repeat' (first | split | dsimp only)) <;> simp

@[simp] theorem startWaiting_units (s : State) :
    (startWaiting s).pending = s.pending ∧ (startWaiting s).link = s.link ∧ (startWaiting s).seq = s.seq ∧
    (startWaiting s).store = s.store ∧ (startWaiting s).traj = s.traj ∧ (startWaiting s).guide = s.guide ∧
    (startWaiting s).bus = s.bus ∧ (startWaiting s).gust = s.gust ∧ (startWaiting s).mode = s.mode ∧
    (startWaiting s).tables = s.tables ∧ (startWaiting s).draws = s.draws ∧ (startWaiting s).now = s.now := by
  unfold startWaiting; (repeat' (first | split | dsimp only)) <;> simp

@[simp] theorem discardPlan_units (s : State) :
    (discardPlan s).pending = s.pending ∧ (discardPlan s).link = s.link ∧ (discardPlan s).seq = s.seq ∧
    (discardPlan s).store = s.store ∧ (discardPlan s).traj = s.traj ∧ (discardPlan s).guide = s.guide ∧
    (discardPlan s).bus = s.bus ∧ (discardPlan s).gust = s.gust ∧ (discardPlan s).mode = s.mode ∧
    (discardPlan s).tables = s.tables ∧ (discardPlan s).draws = s.draws ∧ (discardPlan s).now = s.now := by
  unfold discardPlan; (repeat' (first | split | dsimp only)) <;> simp

/-! ## The Guide Unit -/

@[simp] theorem latchGuideChange_units (p : GuidePhase) (s : State) :
    (latchGuideChange p s).pending = s.pending ∧ (latchGuideChange p s).seq = s.seq ∧
    (latchGuideChange p s).store = s.store ∧ (latchGuideChange p s).planner = s.planner ∧
    (latchGuideChange p s).traj = s.traj ∧ (latchGuideChange p s).guide = s.guide ∧
    (latchGuideChange p s).bus = s.bus ∧ (latchGuideChange p s).gust = s.gust ∧
    (latchGuideChange p s).mode = s.mode ∧ (latchGuideChange p s).tables = s.tables ∧
    (latchGuideChange p s).draws = s.draws ∧ (latchGuideChange p s).now = s.now := by
  unfold latchGuideChange; (repeat' (first | split | dsimp only)) <;> simp

@[simp] theorem guideZero_units (s : State) :
    (guideZero s).pending = s.pending ∧ (guideZero s).link = s.link ∧ (guideZero s).seq = s.seq ∧
    (guideZero s).store = s.store ∧ (guideZero s).planner = s.planner ∧ (guideZero s).traj = s.traj ∧
    (guideZero s).bus = s.bus ∧ (guideZero s).gust = s.gust ∧ (guideZero s).mode = s.mode ∧
    (guideZero s).tables = s.tables ∧ (guideZero s).draws = s.draws ∧ (guideZero s).now = s.now := by
  unfold guideZero; (repeat' (first | split | dsimp only)) <;> simp

@[simp] theorem guideBegin_units (m : GuideMode) (s : State) :
    (guideBegin m s).pending = s.pending ∧ (guideBegin m s).seq = s.seq ∧ (guideBegin m s).store = s.store ∧
    (guideBegin m s).planner = s.planner ∧ (guideBegin m s).traj = s.traj ∧ (guideBegin m s).bus = s.bus ∧
    (guideBegin m s).gust = s.gust ∧ (guideBegin m s).mode = s.mode ∧ (guideBegin m s).tables = s.tables ∧
    (guideBegin m s).draws = s.draws ∧ (guideBegin m s).now = s.now := by
  unfold guideBegin; (repeat' (first | split | dsimp only)) <;> simp

@[simp] theorem guideStop_units (s : State) :
    (guideStop s).pending = s.pending ∧ (guideStop s).seq = s.seq ∧ (guideStop s).store = s.store ∧
    (guideStop s).planner = s.planner ∧ (guideStop s).traj = s.traj ∧ (guideStop s).bus = s.bus ∧
    (guideStop s).gust = s.gust ∧ (guideStop s).mode = s.mode ∧ (guideStop s).tables = s.tables ∧
    (guideStop s).draws = s.draws ∧ (guideStop s).now = s.now := by
  unfold guideStop; (repeat' (first | split | dsimp only)) <;> simp

@[simp] theorem guideSuspend_units (s : State) :
    (guideSuspend s).pending = s.pending ∧ (guideSuspend s).seq = s.seq ∧ (guideSuspend s).store = s.store ∧
    (guideSuspend s).planner = s.planner ∧ (guideSuspend s).traj = s.traj ∧ (guideSuspend s).bus = s.bus ∧
    (guideSuspend s).gust = s.gust ∧ (guideSuspend s).mode = s.mode ∧ (guideSuspend s).tables = s.tables ∧
    (guideSuspend s).draws = s.draws ∧ (guideSuspend s).now = s.now := by
  unfold guideSuspend; (repeat' (first | split | dsimp only)) <;> simp

@[simp] theorem guideUnsuspend_units (s : State) :
    (guideUnsuspend s).pending = s.pending ∧ (guideUnsuspend s).seq = s.seq ∧
    (guideUnsuspend s).store = s.store ∧ (guideUnsuspend s).planner = s.planner ∧
    (guideUnsuspend s).traj = s.traj ∧ (guideUnsuspend s).bus = s.bus ∧ (guideUnsuspend s).gust = s.gust ∧
    (guideUnsuspend s).mode = s.mode ∧ (guideUnsuspend s).tables = s.tables ∧
    (guideUnsuspend s).draws = s.draws ∧ (guideUnsuspend s).now = s.now := by
  unfold guideUnsuspend; (repeat' (first | split | dsimp only)) <;> simp

@[simp] theorem acceptCorrection_units (q : BitVec 16) (az el : GuideMove) (s : State) :
    (acceptCorrection q az el s).pending = s.pending ∧ (acceptCorrection q az el s).seq = s.seq ∧
    (acceptCorrection q az el s).store = s.store ∧ (acceptCorrection q az el s).planner = s.planner ∧
    (acceptCorrection q az el s).traj = s.traj ∧ (acceptCorrection q az el s).bus = s.bus ∧
    (acceptCorrection q az el s).gust = s.gust ∧ (acceptCorrection q az el s).mode = s.mode ∧
    (acceptCorrection q az el s).tables = s.tables ∧ (acceptCorrection q az el s).draws = s.draws ∧
    (acceptCorrection q az el s).now = s.now := by
  unfold acceptCorrection; (repeat' (first | split | dsimp only)) <;> simp

@[simp] theorem silenceExpires_units (e : Nat) (s : State) :
    (silenceExpires e s).pending = s.pending ∧ (silenceExpires e s).seq = s.seq ∧
    (silenceExpires e s).store = s.store ∧ (silenceExpires e s).planner = s.planner ∧
    (silenceExpires e s).traj = s.traj ∧ (silenceExpires e s).bus = s.bus ∧
    (silenceExpires e s).gust = s.gust ∧ (silenceExpires e s).mode = s.mode ∧
    (silenceExpires e s).tables = s.tables ∧ (silenceExpires e s).draws = s.draws ∧
    (silenceExpires e s).now = s.now := by
  unfold silenceExpires; (repeat' (first | split | dsimp only)) <;> simp

/-! ## The Sequencer -/

@[simp] theorem compareOne_units (id : Nat) (s : State) :
    (compareOne id s).pending = s.pending ∧ (compareOne id s).seq = s.seq ∧
    (compareOne id s).planner = s.planner ∧ (compareOne id s).traj = s.traj ∧
    (compareOne id s).guide = s.guide ∧ (compareOne id s).bus = s.bus ∧ (compareOne id s).gust = s.gust ∧
    (compareOne id s).mode = s.mode ∧ (compareOne id s).tables = s.tables ∧ (compareOne id s).draws = s.draws ∧
    (compareOne id s).now = s.now := by
  unfold compareOne; (repeat' (first | split | dsimp only)) <;> simp

@[simp] theorem compareWindow_units (ids : List Nat) (s : State) :
    (compareWindow ids s).pending = s.pending ∧ (compareWindow ids s).seq = s.seq ∧
    (compareWindow ids s).planner = s.planner ∧ (compareWindow ids s).traj = s.traj ∧
    (compareWindow ids s).guide = s.guide ∧ (compareWindow ids s).bus = s.bus ∧
    (compareWindow ids s).gust = s.gust ∧ (compareWindow ids s).mode = s.mode ∧
    (compareWindow ids s).tables = s.tables ∧ (compareWindow ids s).draws = s.draws ∧
    (compareWindow ids s).now = s.now := by
  induction ids generalizing s with
  | nil => simp [compareWindow]
  | cons id rest ih => simp [compareWindow, ih]

@[simp] theorem latchIfEmpty_units (s : State) :
    (latchIfEmpty s).pending = s.pending ∧ (latchIfEmpty s).seq = s.seq ∧ (latchIfEmpty s).store = s.store ∧
    (latchIfEmpty s).planner = s.planner ∧ (latchIfEmpty s).traj = s.traj ∧ (latchIfEmpty s).guide = s.guide ∧
    (latchIfEmpty s).bus = s.bus ∧ (latchIfEmpty s).gust = s.gust ∧ (latchIfEmpty s).mode = s.mode ∧
    (latchIfEmpty s).tables = s.tables ∧ (latchIfEmpty s).draws = s.draws ∧ (latchIfEmpty s).now = s.now := by
  unfold latchIfEmpty; (repeat' (first | split | dsimp only)) <;> simp

@[simp] theorem stopWaits_units (s : State) :
    (stopWaits s).pending = s.pending ∧ (stopWaits s).link = s.link ∧ (stopWaits s).store = s.store ∧
    (stopWaits s).planner = s.planner ∧ (stopWaits s).traj = s.traj ∧ (stopWaits s).guide = s.guide ∧
    (stopWaits s).bus = s.bus ∧ (stopWaits s).gust = s.gust ∧ (stopWaits s).mode = s.mode ∧
    (stopWaits s).tables = s.tables ∧ (stopWaits s).draws = s.draws ∧ (stopWaits s).now = s.now := by
  unfold stopWaits; (repeat' (first | split | dsimp only)) <;> simp

@[simp] theorem refreshPreemptTimer_units (s : State) :
    (refreshPreemptTimer s).pending = s.pending ∧ (refreshPreemptTimer s).link = s.link ∧
    (refreshPreemptTimer s).store = s.store ∧ (refreshPreemptTimer s).planner = s.planner ∧
    (refreshPreemptTimer s).traj = s.traj ∧ (refreshPreemptTimer s).guide = s.guide ∧
    (refreshPreemptTimer s).bus = s.bus ∧ (refreshPreemptTimer s).gust = s.gust ∧
    (refreshPreemptTimer s).mode = s.mode ∧ (refreshPreemptTimer s).tables = s.tables ∧
    (refreshPreemptTimer s).draws = s.draws ∧ (refreshPreemptTimer s).now = s.now := by
  unfold refreshPreemptTimer; (repeat' (first | split | dsimp only)) <;> simp

@[simp] theorem followHead_units (h : Option Nat) (s : State) :
    (followHead h s).pending = s.pending ∧ (followHead h s).link = s.link ∧
    (followHead h s).store = s.store ∧ (followHead h s).planner = s.planner ∧
    (followHead h s).traj = s.traj ∧ (followHead h s).guide = s.guide ∧
    (followHead h s).bus = s.bus ∧ (followHead h s).gust = s.gust ∧
    (followHead h s).mode = s.mode ∧ (followHead h s).tables = s.tables ∧
    (followHead h s).draws = s.draws ∧ (followHead h s).now = s.now := by
  unfold followHead; (repeat' (first | split | dsimp only)) <;> simp

@[simp] theorem skipHead_units (o : Ending) (e : Entry) (rest : List Entry) (s : State) :
    (skipHead o e rest s).pending = s.pending ∧ (skipHead o e rest s).planner = s.planner ∧
    (skipHead o e rest s).traj = s.traj ∧ (skipHead o e rest s).guide = s.guide ∧
    (skipHead o e rest s).bus = s.bus ∧ (skipHead o e rest s).gust = s.gust ∧
    (skipHead o e rest s).mode = s.mode ∧ (skipHead o e rest s).tables = s.tables ∧
    (skipHead o e rest s).draws = s.draws ∧ (skipHead o e rest s).now = s.now := by
  unfold skipHead; (repeat' (first | split | dsimp only)) <;> simp

@[simp] theorem activate_units (e : Entry) (rest : List Entry) (s : State) :
    (activate e rest s).pending = s.pending ∧ (activate e rest s).bus = s.bus ∧
    (activate e rest s).gust = s.gust ∧ (activate e rest s).mode = s.mode ∧
    (activate e rest s).tables = s.tables ∧ (activate e rest s).draws = s.draws ∧
    (activate e rest s).now = s.now := by
  unfold activate; (repeat' (first | split | dsimp only)) <;> simp

@[simp] theorem waitForTrack_units (e : Entry) (rest : List Entry) (t : Nat) (s : State) :
    (waitForTrack e rest t s).pending = s.pending ∧ (waitForTrack e rest t s).link = s.link ∧
    (waitForTrack e rest t s).store = s.store ∧ (waitForTrack e rest t s).planner = s.planner ∧
    (waitForTrack e rest t s).traj = s.traj ∧ (waitForTrack e rest t s).guide = s.guide ∧
    (waitForTrack e rest t s).bus = s.bus ∧ (waitForTrack e rest t s).gust = s.gust ∧
    (waitForTrack e rest t s).mode = s.mode ∧ (waitForTrack e rest t s).tables = s.tables ∧
    (waitForTrack e rest t s).draws = s.draws ∧ (waitForTrack e rest t s).now = s.now := by
  unfold waitForTrack; (repeat' (first | split | dsimp only)) <;> simp

@[simp] theorem selectRounds_units (n : Nat) (s : State) :
    (selectRounds n s).pending = s.pending ∧ (selectRounds n s).bus = s.bus ∧
    (selectRounds n s).gust = s.gust ∧ (selectRounds n s).mode = s.mode ∧
    (selectRounds n s).tables = s.tables ∧ (selectRounds n s).draws = s.draws ∧
    (selectRounds n s).now = s.now := by
  induction n generalizing s with
  | zero => simp [selectRounds]
  | succ n ih =>
    unfold selectRounds
    split
    · simp
    · (repeat' split) <;> simp [ih]

@[simp] theorem select_units (s : State) :
    (select s).pending = s.pending ∧ (select s).bus = s.bus ∧ (select s).gust = s.gust ∧
    (select s).mode = s.mode ∧ (select s).tables = s.tables ∧ (select s).draws = s.draws ∧
    (select s).now = s.now := by
  unfold select; (repeat' (first | split | dsimp only)) <;> simp

@[simp] theorem closeRecord_units (o : Ending) (back : Option Entry) (s : State) :
    (closeRecord o back s).pending = s.pending ∧ (closeRecord o back s).link = s.link ∧
    (closeRecord o back s).store = s.store ∧ (closeRecord o back s).planner = s.planner ∧
    (closeRecord o back s).traj = s.traj ∧ (closeRecord o back s).guide = s.guide ∧
    (closeRecord o back s).bus = s.bus ∧ (closeRecord o back s).gust = s.gust ∧
    (closeRecord o back s).mode = s.mode ∧ (closeRecord o back s).tables = s.tables ∧
    (closeRecord o back s).draws = s.draws ∧ (closeRecord o back s).now = s.now := by
  unfold closeRecord; (repeat' (first | split | dsimp only)) <;> simp

@[simp] theorem brakeIfIdle_units (s : State) :
    (brakeIfIdle s).pending = s.pending ∧ (brakeIfIdle s).link = s.link ∧ (brakeIfIdle s).seq = s.seq ∧
    (brakeIfIdle s).store = s.store ∧ (brakeIfIdle s).planner = s.planner ∧ (brakeIfIdle s).guide = s.guide ∧
    (brakeIfIdle s).bus = s.bus ∧ (brakeIfIdle s).gust = s.gust ∧ (brakeIfIdle s).mode = s.mode ∧
    (brakeIfIdle s).tables = s.tables ∧ (brakeIfIdle s).draws = s.draws ∧ (brakeIfIdle s).now = s.now := by
  unfold brakeIfIdle; (repeat' (first | split | dsimp only)) <;> simp

@[simp] theorem closeObservation_units (o : Ending) (back : Option Entry) (s : State) :
    (closeObservation o back s).pending = s.pending ∧ (closeObservation o back s).store = s.store ∧
    (closeObservation o back s).bus = s.bus ∧ (closeObservation o back s).gust = s.gust ∧
    (closeObservation o back s).mode = s.mode ∧ (closeObservation o back s).tables = s.tables ∧
    (closeObservation o back s).draws = s.draws ∧ (closeObservation o back s).now = s.now := by
  unfold closeObservation; (repeat' (first | split | dsimp only)) <;> simp

@[simp] theorem endObservation_units (o : Ending) (s : State) :
    (endObservation o s).pending = s.pending ∧ (endObservation o s).bus = s.bus ∧
    (endObservation o s).gust = s.gust ∧ (endObservation o s).mode = s.mode ∧
    (endObservation o s).tables = s.tables ∧ (endObservation o s).draws = s.draws ∧
    (endObservation o s).now = s.now := by
  unfold endObservation; (repeat' (first | split | dsimp only)) <;> simp

@[simp] theorem endPreempted_units (e : Entry) (s : State) :
    (endPreempted e s).pending = s.pending ∧ (endPreempted e s).bus = s.bus ∧
    (endPreempted e s).gust = s.gust ∧ (endPreempted e s).mode = s.mode ∧
    (endPreempted e s).tables = s.tables ∧ (endPreempted e s).draws = s.draws ∧
    (endPreempted e s).now = s.now := by
  unfold endPreempted; (repeat' (first | split | dsimp only)) <;> simp

@[simp] theorem examinePreemption_units (s : State) :
    (examinePreemption s).pending = s.pending ∧ (examinePreemption s).bus = s.bus ∧
    (examinePreemption s).gust = s.gust ∧ (examinePreemption s).mode = s.mode ∧
    (examinePreemption s).tables = s.tables ∧ (examinePreemption s).draws = s.draws ∧
    (examinePreemption s).now = s.now := by
  unfold examinePreemption; (repeat' (first | split | dsimp only)) <;> simp

@[simp] theorem selectOrPreempt_units (s : State) :
    (selectOrPreempt s).pending = s.pending ∧ (selectOrPreempt s).bus = s.bus ∧
    (selectOrPreempt s).gust = s.gust ∧ (selectOrPreempt s).mode = s.mode ∧
    (selectOrPreempt s).tables = s.tables ∧ (selectOrPreempt s).draws = s.draws ∧
    (selectOrPreempt s).now = s.now := by
  unfold selectOrPreempt; (repeat' (first | split | dsimp only)) <;> simp

@[simp] theorem addHold_units (r : HoldReason) (s : State) :
    (addHold r s).pending = s.pending ∧ (addHold r s).link = s.link ∧ (addHold r s).store = s.store ∧
    (addHold r s).planner = s.planner ∧ (addHold r s).traj = s.traj ∧ (addHold r s).guide = s.guide ∧
    (addHold r s).bus = s.bus ∧ (addHold r s).gust = s.gust ∧ (addHold r s).mode = s.mode ∧
    (addHold r s).tables = s.tables ∧ (addHold r s).draws = s.draws ∧ (addHold r s).now = s.now := by
  unfold addHold; (repeat' (first | split | dsimp only)) <;> simp

@[simp] theorem dropHold_units (r : HoldReason) (s : State) :
    (dropHold r s).pending = s.pending ∧ (dropHold r s).link = s.link ∧ (dropHold r s).store = s.store ∧
    (dropHold r s).planner = s.planner ∧ (dropHold r s).traj = s.traj ∧ (dropHold r s).guide = s.guide ∧
    (dropHold r s).bus = s.bus ∧ (dropHold r s).gust = s.gust ∧ (dropHold r s).mode = s.mode ∧
    (dropHold r s).tables = s.tables ∧ (dropHold r s).draws = s.draws ∧ (dropHold r s).now = s.now := by
  unfold dropHold; (repeat' (first | split | dsimp only)) <;> simp

@[simp] theorem clearHold_units (r : HoldReason) (s : State) :
    (clearHold r s).pending = s.pending ∧ (clearHold r s).bus = s.bus ∧ (clearHold r s).gust = s.gust ∧
    (clearHold r s).mode = s.mode ∧ (clearHold r s).tables = s.tables ∧ (clearHold r s).draws = s.draws ∧
    (clearHold r s).now = s.now := by
  unfold clearHold; (repeat' (first | split | dsimp only)) <;> simp

@[simp] theorem stopRun_units (s : State) :
    (stopRun s).pending = s.pending ∧ (stopRun s).link = s.link ∧ (stopRun s).store = s.store ∧
    (stopRun s).planner = s.planner ∧ (stopRun s).traj = s.traj ∧ (stopRun s).guide = s.guide ∧
    (stopRun s).bus = s.bus ∧ (stopRun s).gust = s.gust ∧ (stopRun s).mode = s.mode ∧
    (stopRun s).tables = s.tables ∧ (stopRun s).draws = s.draws ∧ (stopRun s).now = s.now := by
  unfold stopRun; (repeat' (first | split | dsimp only)) <;> simp

@[simp] theorem startRun_units (s : State) :
    (startRun s).pending = s.pending ∧ (startRun s).bus = s.bus ∧ (startRun s).gust = s.gust ∧
    (startRun s).mode = s.mode ∧ (startRun s).tables = s.tables ∧ (startRun s).draws = s.draws ∧
    (startRun s).now = s.now := by
  unfold startRun; (repeat' (first | split | dsimp only)) <;> simp

@[simp] theorem beginTracking_units (s : State) :
    (beginTracking s).pending = s.pending ∧ (beginTracking s).store = s.store ∧
    (beginTracking s).planner = s.planner ∧ (beginTracking s).traj = s.traj ∧ (beginTracking s).bus = s.bus ∧
    (beginTracking s).gust = s.gust ∧ (beginTracking s).mode = s.mode ∧ (beginTracking s).tables = s.tables ∧
    (beginTracking s).draws = s.draws ∧ (beginTracking s).now = s.now := by
  unfold beginTracking; (repeat' (first | split | dsimp only)) <;> simp

@[simp] theorem seqReport_units (i : Axis) (fe : Int) (s : State) :
    (seqReport i fe s).pending = s.pending ∧ (seqReport i fe s).store = s.store ∧
    (seqReport i fe s).planner = s.planner ∧ (seqReport i fe s).traj = s.traj ∧
    (seqReport i fe s).bus = s.bus ∧ (seqReport i fe s).gust = s.gust ∧ (seqReport i fe s).mode = s.mode ∧
    (seqReport i fe s).tables = s.tables ∧ (seqReport i fe s).draws = s.draws ∧
    (seqReport i fe s).now = s.now := by
  unfold seqReport; (repeat' (first | split | dsimp only)) <;> simp

@[simp] theorem startSlewing_units (t : Nat) (s : State) :
    (startSlewing t s).pending = s.pending ∧ (startSlewing t s).link = s.link ∧
    (startSlewing t s).store = s.store ∧ (startSlewing t s).planner = s.planner ∧
    (startSlewing t s).traj = s.traj ∧ (startSlewing t s).guide = s.guide ∧ (startSlewing t s).bus = s.bus ∧
    (startSlewing t s).gust = s.gust ∧ (startSlewing t s).mode = s.mode ∧
    (startSlewing t s).tables = s.tables ∧ (startSlewing t s).draws = s.draws ∧
    (startSlewing t s).now = s.now := by
  unfold startSlewing; (repeat' (first | split | dsimp only)) <;> simp

@[simp] theorem startSettling_units (s : State) :
    (startSettling s).pending = s.pending ∧ (startSettling s).link = s.link ∧
    (startSettling s).store = s.store ∧ (startSettling s).planner = s.planner ∧
    (startSettling s).traj = s.traj ∧ (startSettling s).guide = s.guide ∧ (startSettling s).bus = s.bus ∧
    (startSettling s).gust = s.gust ∧ (startSettling s).mode = s.mode ∧ (startSettling s).tables = s.tables ∧
    (startSettling s).draws = s.draws ∧ (startSettling s).now = s.now := by
  unfold startSettling; (repeat' (first | split | dsimp only)) <;> simp

@[simp] theorem countTracked_units (t : Nat) (s : State) :
    (countTracked t s).pending = s.pending ∧ (countTracked t s).link = s.link ∧
    (countTracked t s).store = s.store ∧ (countTracked t s).planner = s.planner ∧
    (countTracked t s).traj = s.traj ∧ (countTracked t s).guide = s.guide ∧ (countTracked t s).bus = s.bus ∧
    (countTracked t s).gust = s.gust ∧ (countTracked t s).mode = s.mode ∧
    (countTracked t s).tables = s.tables ∧ (countTracked t s).draws = s.draws ∧
    (countTracked t s).now = s.now := by
  unfold countTracked; (repeat' (first | split | dsimp only)) <;> simp

@[simp] theorem judgeDwell_units (t : Nat) (s : State) :
    (judgeDwell t s).pending = s.pending ∧ (judgeDwell t s).bus = s.bus ∧ (judgeDwell t s).gust = s.gust ∧
    (judgeDwell t s).mode = s.mode ∧ (judgeDwell t s).tables = s.tables ∧ (judgeDwell t s).draws = s.draws ∧
    (judgeDwell t s).now = s.now := by
  unfold judgeDwell; (repeat' (first | split | dsimp only)) <;> simp

@[simp] theorem tellSegment_units (id : Nat) (s : State) :
    (tellSegment id s).pending = s.pending ∧ (tellSegment id s).bus = s.bus ∧
    (tellSegment id s).gust = s.gust ∧ (tellSegment id s).mode = s.mode ∧
    (tellSegment id s).tables = s.tables ∧ (tellSegment id s).draws = s.draws ∧
    (tellSegment id s).now = s.now := by
  unfold tellSegment; (repeat' (first | split | dsimp only)) <;> simp

/-! ## The Mode Controller -/

@[simp] theorem releaseLevel_units (s : State) :
    (releaseLevel s).pending = s.pending ∧ (releaseLevel s).bus = s.bus ∧ (releaseLevel s).mode = s.mode ∧
    (releaseLevel s).tables = s.tables ∧ (releaseLevel s).draws = s.draws ∧ (releaseLevel s).now = s.now := by
  unfold releaseLevel; (repeat' (first | split | dsimp only)) <;> simp

@[simp] theorem endRestByMode_units (s : State) :
    (endRestByMode s).pending = s.pending ∧ (endRestByMode s).tables = s.tables ∧
    (endRestByMode s).draws = s.draws := by
  unfold endRestByMode; (repeat' (first | split | dsimp only)) <;> simp

@[simp] theorem endRest_units (s : State) :
    (endRest s).pending = s.pending ∧ (endRest s).bus = s.bus ∧ (endRest s).tables = s.tables ∧
    (endRest s).draws = s.draws := by
  unfold endRest; (repeat' (first | split | dsimp only)) <;> simp

@[simp] theorem startCheck_units (t : Nat) (s : State) :
    (startCheck t s).pending = s.pending ∧ (startCheck t s).link = s.link ∧ (startCheck t s).seq = s.seq ∧
    (startCheck t s).store = s.store ∧ (startCheck t s).planner = s.planner ∧ (startCheck t s).traj = s.traj ∧
    (startCheck t s).guide = s.guide ∧ (startCheck t s).bus = s.bus ∧ (startCheck t s).mode = s.mode ∧
    (startCheck t s).tables = s.tables ∧ (startCheck t s).draws = s.draws ∧ (startCheck t s).now = s.now := by
  unfold startCheck; (repeat' (first | split | dsimp only)) <;> simp

@[simp] theorem overrideOff_units (s : State) :
    (overrideOff s).pending = s.pending ∧ (overrideOff s).link = s.link ∧ (overrideOff s).seq = s.seq ∧
    (overrideOff s).store = s.store ∧ (overrideOff s).planner = s.planner ∧ (overrideOff s).traj = s.traj ∧
    (overrideOff s).guide = s.guide ∧ (overrideOff s).gust = s.gust ∧ (overrideOff s).mode = s.mode ∧
    (overrideOff s).tables = s.tables ∧ (overrideOff s).draws = s.draws ∧ (overrideOff s).now = s.now := by
  unfold overrideOff; (repeat' (first | split | dsimp only)) <;> simp

@[simp] theorem reenable_units (t : Nat) (s : State) :
    (reenable t s).pending = s.pending ∧ (reenable t s).link = s.link ∧ (reenable t s).seq = s.seq ∧
    (reenable t s).store = s.store ∧ (reenable t s).planner = s.planner ∧ (reenable t s).guide = s.guide ∧
    (reenable t s).mode = s.mode ∧ (reenable t s).tables = s.tables ∧ (reenable t s).draws = s.draws ∧
    (reenable t s).now = s.now := by
  unfold reenable; (repeat' (first | split | dsimp only)) <;> simp

@[simp] theorem restAtStop_units (s : State) :
    (restAtStop s).pending = s.pending ∧ (restAtStop s).tables = s.tables ∧
    (restAtStop s).draws = s.draws := by
  unfold restAtStop; (repeat' (first | split | dsimp only)) <;> simp

@[simp] theorem restAtMotion_units (s : State) :
    (restAtMotion s).pending = s.pending ∧ (restAtMotion s).tables = s.tables ∧
    (restAtMotion s).draws = s.draws := by
  unfold restAtMotion; (repeat' (first | split | dsimp only)) <;> simp

@[simp] theorem supervisionOff_units (s : State) :
    (supervisionOff s).pending = s.pending ∧ (supervisionOff s).link = s.link ∧
    (supervisionOff s).seq = s.seq ∧ (supervisionOff s).store = s.store ∧
    (supervisionOff s).planner = s.planner ∧ (supervisionOff s).traj = s.traj ∧
    (supervisionOff s).guide = s.guide ∧ (supervisionOff s).bus = s.bus ∧ (supervisionOff s).gust = s.gust ∧
    (supervisionOff s).tables = s.tables ∧ (supervisionOff s).draws = s.draws := by
  unfold supervisionOff; (repeat' (first | split | dsimp only)) <;> simp

@[simp] theorem supervisionEnter_units (s : State) :
    (supervisionEnter s).pending = s.pending ∧ (supervisionEnter s).link = s.link ∧
    (supervisionEnter s).seq = s.seq ∧ (supervisionEnter s).store = s.store ∧
    (supervisionEnter s).planner = s.planner ∧ (supervisionEnter s).traj = s.traj ∧
    (supervisionEnter s).guide = s.guide ∧ (supervisionEnter s).bus = s.bus ∧
    (supervisionEnter s).gust = s.gust ∧ (supervisionEnter s).tables = s.tables ∧
    (supervisionEnter s).draws = s.draws := by
  unfold supervisionEnter; (repeat' (first | split | dsimp only)) <;> simp

@[simp] theorem settleOff_units (s : State) :
    (settleOff s).pending = s.pending ∧ (settleOff s).link = s.link ∧ (settleOff s).seq = s.seq ∧
    (settleOff s).store = s.store ∧ (settleOff s).planner = s.planner ∧ (settleOff s).traj = s.traj ∧
    (settleOff s).guide = s.guide ∧ (settleOff s).bus = s.bus ∧ (settleOff s).gust = s.gust ∧
    (settleOff s).tables = s.tables ∧ (settleOff s).draws = s.draws := by
  unfold settleOff; (repeat' (first | split | dsimp only)) <;> simp

@[simp] theorem leaveMode_units (old new : Mode) (s : State) :
    (leaveMode old new s).pending = s.pending ∧ (leaveMode old new s).link = s.link ∧
    (leaveMode old new s).store = s.store ∧ (leaveMode old new s).guide = s.guide ∧
    (leaveMode old new s).bus = s.bus ∧ (leaveMode old new s).gust = s.gust ∧
    (leaveMode old new s).tables = s.tables ∧ (leaveMode old new s).draws = s.draws := by
  unfold leaveMode; (repeat' (first | split | dsimp only)) <;> simp

@[simp] theorem settleGust_units (m : Mode) (s : State) :
    (settleGust m s).pending = s.pending ∧ (settleGust m s).tables = s.tables ∧
    (settleGust m s).draws = s.draws := by
  unfold settleGust; (repeat' (first | split | dsimp only)) <;> simp

@[simp] theorem modeAlerts_units (m : Mode) (s : State) :
    (modeAlerts m s).pending = s.pending ∧ (modeAlerts m s).link = s.link ∧ (modeAlerts m s).seq = s.seq ∧
    (modeAlerts m s).store = s.store ∧ (modeAlerts m s).planner = s.planner ∧ (modeAlerts m s).traj = s.traj ∧
    (modeAlerts m s).guide = s.guide ∧ (modeAlerts m s).bus = s.bus ∧ (modeAlerts m s).gust = s.gust ∧
    (modeAlerts m s).tables = s.tables ∧ (modeAlerts m s).draws = s.draws := by
  unfold modeAlerts; (repeat' (first | split | dsimp only)) <;> simp

@[simp] theorem changeMode_units (m : Mode) (s : State) :
    (changeMode m s).pending = s.pending ∧ (changeMode m s).tables = s.tables ∧
    (changeMode m s).draws = s.draws := by
  unfold changeMode; (repeat' (first | split | dsimp only)) <;> simp

@[simp] theorem startEnabling_units (s : State) :
    (startEnabling s).pending = s.pending ∧ (startEnabling s).link = s.link ∧ (startEnabling s).seq = s.seq ∧
    (startEnabling s).store = s.store ∧ (startEnabling s).planner = s.planner ∧
    (startEnabling s).traj = s.traj ∧ (startEnabling s).guide = s.guide ∧ (startEnabling s).bus = s.bus ∧
    (startEnabling s).gust = s.gust ∧ (startEnabling s).tables = s.tables ∧
    (startEnabling s).draws = s.draws := by
  unfold startEnabling; (repeat' (first | split | dsimp only)) <;> simp

@[simp] theorem enterFault_units (s : State) :
    (enterFault s).pending = s.pending ∧ (enterFault s).tables = s.tables ∧
    (enterFault s).draws = s.draws := by
  unfold enterFault; (repeat' (first | split | dsimp only)) <;> simp

@[simp] theorem awaitSettle_units (s : State) :
    (awaitSettle s).pending = s.pending ∧ (awaitSettle s).link = s.link ∧ (awaitSettle s).seq = s.seq ∧
    (awaitSettle s).store = s.store ∧ (awaitSettle s).planner = s.planner ∧ (awaitSettle s).traj = s.traj ∧
    (awaitSettle s).guide = s.guide ∧ (awaitSettle s).bus = s.bus ∧ (awaitSettle s).gust = s.gust ∧
    (awaitSettle s).tables = s.tables ∧ (awaitSettle s).draws = s.draws := by
  unfold awaitSettle; (repeat' (first | split | dsimp only)) <;> simp

@[simp] theorem beginStow_units (s : State) :
    (beginStow s).pending = s.pending ∧ (beginStow s).tables = s.tables ∧ (beginStow s).draws = s.draws := by
  unfold beginStow; (repeat' (first | split | dsimp only)) <;> simp

@[simp] theorem beginPark_units (s : State) :
    (beginPark s).pending = s.pending ∧ (beginPark s).tables = s.tables ∧ (beginPark s).draws = s.draws := by
  unfold beginPark; (repeat' (first | split | dsimp only)) <;> simp

@[simp] theorem makeReady_units (s : State) :
    (makeReady s).pending = s.pending ∧ (makeReady s).tables = s.tables ∧ (makeReady s).draws = s.draws := by
  unfold makeReady; (repeat' (first | split | dsimp only)) <;> simp

@[simp] theorem countFailure_units (s : State) :
    (countFailure s).pending = s.pending ∧ (countFailure s).store = s.store ∧
    (countFailure s).planner = s.planner ∧ (countFailure s).traj = s.traj ∧ (countFailure s).guide = s.guide ∧
    (countFailure s).bus = s.bus ∧ (countFailure s).gust = s.gust ∧ (countFailure s).tables = s.tables ∧
    (countFailure s).draws = s.draws := by
  unfold countFailure; (repeat' (first | split | dsimp only)) <;> simp

@[simp] theorem superviseFail_units (s : State) :
    (superviseFail s).pending = s.pending ∧ (superviseFail s).tables = s.tables ∧
    (superviseFail s).draws = s.draws := by
  unfold superviseFail; (repeat' (first | split | dsimp only)) <;> simp

@[simp] theorem countKeepalive_units (b : Bool) (p : Nat) (s : State) :
    (countKeepalive b p s).pending = s.pending ∧ (countKeepalive b p s).bus = s.bus ∧
    (countKeepalive b p s).gust = s.gust ∧ (countKeepalive b p s).tables = s.tables ∧
    (countKeepalive b p s).draws = s.draws := by
  unfold countKeepalive; (repeat' (first | split | dsimp only)) <;> simp

@[simp] theorem axisProblem_units (s : State) :
    (axisProblem s).pending = s.pending ∧ (axisProblem s).tables = s.tables ∧
    (axisProblem s).draws = s.draws := by
  unfold axisProblem; (repeat' (first | split | dsimp only)) <;> simp

@[simp] theorem markEnabled_units (i : Axis) (s : State) :
    (markEnabled i s).pending = s.pending ∧ (markEnabled i s).tables = s.tables ∧
    (markEnabled i s).draws = s.draws := by
  unfold markEnabled; (repeat' (first | split | dsimp only)) <;> simp

@[simp] theorem countMotion_units (i : Axis) (fe : Int) (s : State) :
    (countMotion i fe s).pending = s.pending ∧ (countMotion i fe s).tables = s.tables ∧
    (countMotion i fe s).draws = s.draws := by
  unfold countMotion; (repeat' (first | split | dsimp only)) <;> simp

@[simp] theorem modeReport_units (i : Axis) (d : DriveState) (fe : Option Int) (b : Bool) (s : State) :
    (modeReport i d fe b s).pending = s.pending ∧ (modeReport i d fe b s).tables = s.tables ∧
    (modeReport i d fe b s).draws = s.draws := by
  unfold modeReport; (repeat' (first | split | dsimp only)) <;> simp

@[simp] theorem startCounting_units (t : Nat) (s : State) :
    (startCounting t s).pending = s.pending ∧ (startCounting t s).link = s.link ∧
    (startCounting t s).seq = s.seq ∧ (startCounting t s).store = s.store ∧
    (startCounting t s).planner = s.planner ∧ (startCounting t s).traj = s.traj ∧
    (startCounting t s).guide = s.guide ∧ (startCounting t s).bus = s.bus ∧ (startCounting t s).gust = s.gust ∧
    (startCounting t s).tables = s.tables ∧ (startCounting t s).draws = s.draws := by
  unfold startCounting; (repeat' (first | split | dsimp only)) <;> simp

/-! ## The Load Monitor -/

@[simp] theorem judgeRunaway_units (i : Axis) (fe : Int) (s : State) :
    (judgeRunaway i fe s).pending = s.pending ∧ (judgeRunaway i fe s).tables = s.tables ∧
    (judgeRunaway i fe s).draws = s.draws := by
  unfold judgeRunaway; (repeat' (first | split | dsimp only)) <;> simp

@[simp] theorem beginRest_units (s : State) :
    (beginRest s).pending = s.pending ∧ (beginRest s).link = s.link ∧ (beginRest s).seq = s.seq ∧
    (beginRest s).store = s.store ∧ (beginRest s).planner = s.planner ∧ (beginRest s).guide = s.guide ∧
    (beginRest s).mode = s.mode ∧ (beginRest s).tables = s.tables ∧ (beginRest s).draws = s.draws ∧
    (beginRest s).now = s.now := by
  unfold beginRest; (repeat' (first | split | dsimp only)) <;> simp

@[simp] theorem gustStow_units (s : State) :
    (gustStow s).pending = s.pending ∧ (gustStow s).tables = s.tables ∧ (gustStow s).draws = s.draws := by
  unfold gustStow; (repeat' (first | split | dsimp only)) <;> simp

@[simp] theorem countLevelTwo_units (s : State) :
    (countLevelTwo s).pending = s.pending ∧ (countLevelTwo s).link = s.link ∧ (countLevelTwo s).seq = s.seq ∧
    (countLevelTwo s).store = s.store ∧ (countLevelTwo s).planner = s.planner ∧
    (countLevelTwo s).traj = s.traj ∧ (countLevelTwo s).guide = s.guide ∧ (countLevelTwo s).bus = s.bus ∧
    (countLevelTwo s).mode = s.mode ∧ (countLevelTwo s).tables = s.tables ∧ (countLevelTwo s).draws = s.draws ∧
    (countLevelTwo s).now = s.now := by
  unfold countLevelTwo; (repeat' (first | split | dsimp only)) <;> simp

@[simp] theorem levelTwo_units (s : State) :
    (levelTwo s).pending = s.pending ∧ (levelTwo s).tables = s.tables ∧ (levelTwo s).draws = s.draws := by
  unfold levelTwo; (repeat' (first | split | dsimp only)) <;> simp

@[simp] theorem judgeWarn_units (i : Axis) (s : State) :
    (judgeWarn i s).pending = s.pending ∧ (judgeWarn i s).seq = s.seq ∧ (judgeWarn i s).store = s.store ∧
    (judgeWarn i s).planner = s.planner ∧ (judgeWarn i s).traj = s.traj ∧ (judgeWarn i s).guide = s.guide ∧
    (judgeWarn i s).bus = s.bus ∧ (judgeWarn i s).mode = s.mode ∧ (judgeWarn i s).tables = s.tables ∧
    (judgeWarn i s).draws = s.draws ∧ (judgeWarn i s).now = s.now := by
  unfold judgeWarn; (repeat' (first | split | dsimp only)) <;> simp

@[simp] theorem enterLevelOne_units (s : State) :
    (enterLevelOne s).pending = s.pending ∧ (enterLevelOne s).store = s.store ∧
    (enterLevelOne s).planner = s.planner ∧ (enterLevelOne s).traj = s.traj ∧ (enterLevelOne s).bus = s.bus ∧
    (enterLevelOne s).mode = s.mode ∧ (enterLevelOne s).tables = s.tables ∧ (enterLevelOne s).draws = s.draws ∧
    (enterLevelOne s).now = s.now := by
  unfold enterLevelOne; (repeat' (first | split | dsimp only)) <;> simp

@[simp] theorem judgeLevelOne_units (i : Axis) (s : State) :
    (judgeLevelOne i s).pending = s.pending ∧ (judgeLevelOne i s).store = s.store ∧
    (judgeLevelOne i s).planner = s.planner ∧ (judgeLevelOne i s).traj = s.traj ∧
    (judgeLevelOne i s).bus = s.bus ∧ (judgeLevelOne i s).mode = s.mode ∧
    (judgeLevelOne i s).tables = s.tables ∧ (judgeLevelOne i s).draws = s.draws ∧
    (judgeLevelOne i s).now = s.now := by
  unfold judgeLevelOne; (repeat' (first | split | dsimp only)) <;> simp

@[simp] theorem judgeLevelTwo_units (i : Axis) (s : State) :
    (judgeLevelTwo i s).pending = s.pending ∧ (judgeLevelTwo i s).tables = s.tables ∧
    (judgeLevelTwo i s).draws = s.draws := by
  unfold judgeLevelTwo; (repeat' (first | split | dsimp only)) <;> simp

@[simp] theorem judgeRelease_units (i : Axis) (b : Bool) (s : State) :
    (judgeRelease i b s).pending = s.pending ∧ (judgeRelease i b s).bus = s.bus ∧
    (judgeRelease i b s).mode = s.mode ∧ (judgeRelease i b s).tables = s.tables ∧
    (judgeRelease i b s).draws = s.draws ∧ (judgeRelease i b s).now = s.now := by
  unfold judgeRelease; (repeat' (first | split | dsimp only)) <;> simp

@[simp] theorem judgeLevels_units (i : Axis) (fe : Int) (s : State) :
    (judgeLevels i fe s).pending = s.pending ∧ (judgeLevels i fe s).tables = s.tables ∧
    (judgeLevels i fe s).draws = s.draws := by
  unfold judgeLevels; (repeat' (first | split | dsimp only)) <;> simp

@[simp] theorem judgeCheck_units (i : Axis) (d : DriveState) (s : State) :
    (judgeCheck i d s).pending = s.pending ∧ (judgeCheck i d s).bus = s.bus ∧
    (judgeCheck i d s).tables = s.tables ∧ (judgeCheck i d s).draws = s.draws := by
  unfold judgeCheck; (repeat' (first | split | dsimp only)) <;> simp

@[simp] theorem gustReport_units (i : Axis) (d : DriveState) (fe : Option Int) (s : State) :
    (gustReport i d fe s).pending = s.pending ∧ (gustReport i d fe s).tables = s.tables ∧
    (gustReport i d fe s).draws = s.draws := by
  unfold gustReport; (repeat' (first | split | dsimp only)) <;> simp

/-! ## The Axis Bus and the demand expiry -/

@[simp] theorem overrideAtEmit_units (s : State) :
    (overrideAtEmit s).pending = s.pending ∧ (overrideAtEmit s).link = s.link ∧
    (overrideAtEmit s).seq = s.seq ∧ (overrideAtEmit s).store = s.store ∧
    (overrideAtEmit s).planner = s.planner ∧ (overrideAtEmit s).traj = s.traj ∧
    (overrideAtEmit s).guide = s.guide ∧ (overrideAtEmit s).mode = s.mode ∧
    (overrideAtEmit s).tables = s.tables ∧ (overrideAtEmit s).draws = s.draws ∧
    (overrideAtEmit s).now = s.now := by
  unfold overrideAtEmit; (repeat' (first | split | dsimp only)) <;> simp

@[simp] theorem sendAxis_units (i : Axis) (q : BitVec 16) (p : Option Int) (b : Bool) (s : State) :
    (sendAxis i q p b s).pending = s.pending ∧ (sendAxis i q p b s).tables = s.tables ∧
    (sendAxis i q p b s).draws = s.draws := by
  unfold sendAxis; (repeat' (first | split | dsimp only)) <;> simp

@[simp] theorem sendFrame_units (t : Nat) (p : Tri (Option Int)) (v : Tri Int) (s : State) :
    (sendFrame t p v s).pending = s.pending ∧ (sendFrame t p v s).tables = s.tables ∧
    (sendFrame t p v s).draws = s.draws := by
  unfold sendFrame; (repeat' (first | split | dsimp only)) <;> simp

@[simp] theorem setUnset_units (i : Axis) (m : Int) (s : State) :
    (setUnset i m s).pending = s.pending ∧ (setUnset i m s).link = s.link ∧ (setUnset i m s).seq = s.seq ∧
    (setUnset i m s).store = s.store ∧ (setUnset i m s).planner = s.planner ∧
    (setUnset i m s).guide = s.guide ∧ (setUnset i m s).bus = s.bus ∧ (setUnset i m s).gust = s.gust ∧
    (setUnset i m s).mode = s.mode ∧ (setUnset i m s).tables = s.tables ∧ (setUnset i m s).draws = s.draws ∧
    (setUnset i m s).now = s.now := by
  unfold setUnset; (repeat' (first | split | dsimp only)) <;> simp

@[simp] theorem seqReportOpt_units (i : Axis) (fe : Option Int) (s : State) :
    (seqReportOpt i fe s).pending = s.pending ∧ (seqReportOpt i fe s).store = s.store ∧
    (seqReportOpt i fe s).planner = s.planner ∧ (seqReportOpt i fe s).traj = s.traj ∧
    (seqReportOpt i fe s).bus = s.bus ∧ (seqReportOpt i fe s).gust = s.gust ∧
    (seqReportOpt i fe s).mode = s.mode ∧ (seqReportOpt i fe s).tables = s.tables ∧
    (seqReportOpt i fe s).draws = s.draws ∧ (seqReportOpt i fe s).now = s.now := by
  unfold seqReportOpt; (repeat' (first | split | dsimp only)) <;> simp

@[simp] theorem takeMatched_units (r : Report) (h : HistEntry) (s : State) :
    (takeMatched r h s).pending = s.pending ∧ (takeMatched r h s).tables = s.tables ∧
    (takeMatched r h s).draws = s.draws := by
  unfold takeMatched; (repeat' (first | split | dsimp only)) <;> simp

@[simp] theorem takeReport_units (r : Report) (s : State) :
    (takeReport r s).pending = s.pending ∧ (takeReport r s).tables = s.tables ∧
    (takeReport r s).draws = s.draws := by
  unfold takeReport; (repeat' (first | split | dsimp only)) <;> simp

@[simp] theorem countCorrupted_units (s : State) :
    (countCorrupted s).pending = s.pending ∧ (countCorrupted s).link = s.link ∧
    (countCorrupted s).seq = s.seq ∧ (countCorrupted s).store = s.store ∧
    (countCorrupted s).planner = s.planner ∧ (countCorrupted s).traj = s.traj ∧
    (countCorrupted s).guide = s.guide ∧ (countCorrupted s).gust = s.gust ∧ (countCorrupted s).mode = s.mode ∧
    (countCorrupted s).tables = s.tables ∧ (countCorrupted s).draws = s.draws ∧
    (countCorrupted s).now = s.now := by
  unfold countCorrupted; (repeat' (first | split | dsimp only)) <;> simp

@[simp] theorem emit_units (t : Nat) (f : Tri Formed) (l : Tri Limited) (s : State) :
    (emit t f l s).pending = s.pending ∧ (emit t f l s).tables = s.tables ∧
    (emit t f l s).draws = s.draws := by
  unfold emit; (repeat' (first | split | dsimp only)) <;> simp

@[simp] theorem takeCause_units (c : Option Ending) (s : State) :
    (takeCause c s).pending = s.pending ∧ (takeCause c s).bus = s.bus ∧ (takeCause c s).gust = s.gust ∧
    (takeCause c s).mode = s.mode ∧ (takeCause c s).tables = s.tables ∧ (takeCause c s).draws = s.draws ∧
    (takeCause c s).now = s.now := by
  unfold takeCause; (repeat' (first | split | dsimp only)) <;> simp

@[simp] theorem keepCoverage_units (inp : Inputs) (f : Tri Formed) (s : State) :
    (keepCoverage inp f s).pending = s.pending ∧ (keepCoverage inp f s).link = s.link ∧
    (keepCoverage inp f s).seq = s.seq ∧ (keepCoverage inp f s).store = s.store ∧
    (keepCoverage inp f s).planner = s.planner ∧ (keepCoverage inp f s).guide = s.guide ∧
    (keepCoverage inp f s).bus = s.bus ∧ (keepCoverage inp f s).gust = s.gust ∧
    (keepCoverage inp f s).mode = s.mode ∧ (keepCoverage inp f s).tables = s.tables ∧
    (keepCoverage inp f s).draws = s.draws ∧ (keepCoverage inp f s).now = s.now := by
  unfold keepCoverage; (repeat' (first | split | dsimp only)) <;> simp

@[simp] theorem sequencerAtExpiry_units (t : Nat) (c : Option Ending) (s : State) :
    (sequencerAtExpiry t c s).pending = s.pending ∧ (sequencerAtExpiry t c s).bus = s.bus ∧
    (sequencerAtExpiry t c s).gust = s.gust ∧ (sequencerAtExpiry t c s).mode = s.mode ∧
    (sequencerAtExpiry t c s).tables = s.tables ∧ (sequencerAtExpiry t c s).draws = s.draws ∧
    (sequencerAtExpiry t c s).now = s.now := by
  unfold sequencerAtExpiry; (repeat' (first | split | dsimp only)) <;> simp

@[simp] theorem beginExpiry_units (s : State) :
    (beginExpiry s).pending = s.pending ∧ (beginExpiry s).seq = s.seq ∧ (beginExpiry s).planner = s.planner ∧
    (beginExpiry s).guide = s.guide ∧ (beginExpiry s).bus = s.bus ∧ (beginExpiry s).gust = s.gust ∧
    (beginExpiry s).mode = s.mode ∧ (beginExpiry s).tables = s.tables ∧ (beginExpiry s).draws = s.draws ∧
    (beginExpiry s).now = s.now := by
  unfold beginExpiry; (repeat' (first | split | dsimp only)) <;> simp

@[simp] theorem runExpiry_units (s : State) :
    (runExpiry s).pending = s.pending ∧ (runExpiry s).tables = s.tables ∧ (runExpiry s).draws = s.draws := by
  unfold runExpiry; (repeat' (first | split | dsimp only)) <;> simp

@[simp] theorem expiry_units (s : State) :
    (expiry s).pending = s.pending ∧ (expiry s).tables = s.tables ∧ (expiry s).draws = s.draws := by
  unfold expiry; (repeat' (first | split | dsimp only)) <;> simp

end Sys2Proof.Machine
end

