-- ==== Sys2Proof/Laws/Link.lean ====
section
/-! SUPPORT. What the latches of the shared operations may do to the Link Interface: nothing but growth of the event set
and of the outgoing notices. -/

namespace Sys2Proof.Machine

/-! ## Kinds and sets -/

/-- The bits of the set that names one kind. -/
theorem word_getLsbD (k : EventKind) (i : Nat) (h : i < 16) : k.word.getLsbD i = decide (i = k.bit) := by
  have key : ∀ j : Fin 16, k.word.getLsbD j.val = decide (j.val = k.bit) := by
    cases k <;> decide
  exact key ⟨i, h⟩

/-- A kind that a mask enables is named by the mask. -/
theorem and_word_of_hasKind {m : BitVec 16} {k : EventKind} (h : hasKind m k = true) :
    m &&& k.word = k.word := by
  apply BitVec.eq_of_getLsbD_eq
  intro i hi
  rw [BitVec.getLsbD_and, word_getLsbD k i hi]
  by_cases e : i = k.bit
  · subst e; simpa [hasKind] using h
  · simp [e]

/-- A kind that a mask disables is not named by the mask. -/
theorem and_word_of_not_hasKind {m : BitVec 16} {k : EventKind} (h : hasKind m k = false) :
    m &&& k.word = 0 := by
  apply BitVec.eq_of_getLsbD_eq
  intro i hi
  rw [BitVec.getLsbD_and, word_getLsbD k i hi]
  by_cases e : i = k.bit
  · subst e; simpa [hasKind] using h
  · simp [e]

/-! ## LinkGrows as an order -/

theorem LinkGrows.refl (s : State) : LinkGrows s s where
  kept := ⟨rfl, rfl, rfl, rfl, rfl, rfl⟩
  frameFault := rfl
  events := ⟨0, by simp⟩
  outbox := ⟨[], by simp, by simp, by by_cases h : s.link.events = 0 <;> simp_all,
    by by_cases h : s.link.events = 0 <;> simp_all⟩

/-- R196: whether a notice is built between an event set and a later one, as a count. -/
theorem notices_add (a b c : BitVec 16) (x y z : Bool) (h1 : y = (x && !(decide (a = 0) && decide (b ≠ 0))))
    (h2 : z = (y && !(decide (b = 0) && decide (c ≠ 0)))) (hb : a ≠ 0 → b ≠ 0) (hc : b ≠ 0 → c ≠ 0) :
    ((if a = 0 ∧ x = true ∧ b ≠ 0 then 1 else 0) + (if b = 0 ∧ y = true ∧ c ≠ 0 then 1 else 0) : Nat)
        = (if a = 0 ∧ x = true ∧ c ≠ 0 then 1 else 0)
      ∧ z = (x && !(decide (a = 0) && decide (c ≠ 0))) := by
  subst h1 h2
  by_cases ha : a = 0 <;> by_cases hbb : b = 0 <;> by_cases hcc : c = 0 <;> cases x <;> simp_all

theorem or_ne_zero {a b : BitVec 16} (h : a ≠ 0) : a ||| b ≠ 0 := by
  intro e
  apply h
  apply BitVec.eq_of_getLsbD_eq
  intro i hi
  have := congrArg (fun v => v.getLsbD i) e
  simp only [BitVec.getLsbD_or, BitVec.ofNat_eq_ofNat, BitVec.getLsbD_zero, Bool.or_eq_false_iff] at this
  simp [this.1]

theorem LinkGrows.trans {a b c : State} (h : LinkGrows a b) (k : LinkGrows b c) : LinkGrows a c := by
  obtain ⟨⟨r1, r2, r3, r4, r5, r6⟩, f1, ⟨e1, h1⟩, n1, o1, q1, l1, m1⟩ := h
  obtain ⟨⟨t1, t2, t3, t4, t5, t6⟩, g1, ⟨e2, h2⟩, n2, o2, q2, l2, m2⟩ := k
  have key := notices_add _ _ _ _ _ _ m1 m2 (fun h => h1 ▸ or_ne_zero h) (fun h => h2 ▸ or_ne_zero h)
  refine ⟨⟨t1.trans r1, t2.trans r2, t3.trans r3, t4.trans r4, t5.trans r5, t6.trans r6⟩, g1.trans f1,
    ⟨e1 ||| e2, ?_⟩, n1 ++ n2, ?_, ?_, ?_, key.2⟩
  · rw [h2, h1, r4, BitVec.or_assoc]
    congr 1
    ext i hi
    simp [Bool.and_or_distrib_left]
  · rw [o2, o1, List.append_assoc]
  · intro o ho
    rcases List.mem_append.mp ho with ho | ho
    · exact q1 o ho
    · exact q2 o ho
  · rw [List.length_append, l1, l2]
    exact key.1

theorem LinkGrows.congr {s x y : State} (h : LinkGrows s x) (e : y.link = x.link) : LinkGrows s y := by
  obtain ⟨h1, h2, h3, h4⟩ := h
  simp only [LinkKept, Notices] at h1 h4
  rw [← e] at h1 h2 h3 h4
  exact ⟨h1, h2, h3, h4⟩

/-- R193: a latch as a change of the event set. -/
theorem latch_events (k : EventKind) (s : State) :
    (latch k s).link.events = s.link.events ||| (s.link.mask &&& k.word) := by
  unfold latch
  split
  · next h =>
    rw [and_word_of_hasKind h]
    dsimp only
    split <;> simp [buildNotice]
  · next h =>
    rw [and_word_of_not_hasKind (by simpa using h)]
    simp

theorem word_ne_zero (k : EventKind) : k.word ≠ 0 := by cases k <;> decide

theorem latch_link {s x : State} {k : EventKind} (h : LinkGrows s x) : LinkGrows s (latch k x) := by
  refine h.trans ?_
  unfold latch
  split
  · next hk =>
    have hne : x.link.events ||| k.word ≠ 0 := by
      rw [BitVec.or_comm]; exact or_ne_zero (word_ne_zero k)
    dsimp only
    split
    · next hb =>
      refine ⟨⟨rfl, rfl, rfl, rfl, rfl, rfl⟩, rfl, ⟨k.word, ?_⟩, _, rfl, ?_, ?_, ?_⟩
      · simp [buildNotice, and_word_of_hasKind hk]
      · simp [OutFrame.isReply]
      · simpa [buildNotice, hb.1, hb.2] using hne
      · simpa [buildNotice, hb.1, hb.2] using hne
    · next hb =>
      refine ⟨⟨rfl, rfl, rfl, rfl, rfl, rfl⟩, rfl, ⟨k.word, ?_⟩, [], by simp, by simp, ?_, ?_⟩
      · simp [and_word_of_hasKind hk]
      · by_cases h0 : x.link.events = 0 <;> cases ha : x.link.noticeArmed <;> simp_all
      · by_cases h0 : x.link.events = 0 <;> cases ha : x.link.noticeArmed <;> simp_all
  · exact LinkGrows.refl x

/-! ## Operations of one unit and of several -/

theorem setPending_link {s x : State} {v : List Instr} (h : LinkGrows s x) : LinkGrows s (x.setPending v) :=
  h.congr rfl

theorem setSeq_link {s x : State} {v : SeqState} (h : LinkGrows s x) : LinkGrows s (x.setSeq v) :=
  h.congr rfl

theorem setStore_link {s x : State} {v : StoreState} (h : LinkGrows s x) : LinkGrows s (x.setStore v) :=
  h.congr rfl

theorem setPlanner_link {s x : State} {v : PlannerState} (h : LinkGrows s x) : LinkGrows s (x.setPlanner v) :=
  h.congr rfl

theorem setTraj_link {s x : State} {v : TrajState} (h : LinkGrows s x) : LinkGrows s (x.setTraj v) :=
  h.congr rfl

theorem setGuide_link {s x : State} {v : GuideState} (h : LinkGrows s x) : LinkGrows s (x.setGuide v) :=
  h.congr rfl

theorem setBus_link {s x : State} {v : BusState} (h : LinkGrows s x) : LinkGrows s (x.setBus v) :=
  h.congr rfl

theorem setGust_link {s x : State} {v : GustState} (h : LinkGrows s x) : LinkGrows s (x.setGust v) :=
  h.congr rfl

theorem setMode_link {s x : State} {v : ModeState} (h : LinkGrows s x) : LinkGrows s (x.setMode v) :=
  h.congr rfl

theorem setTables_link {s x : State} {v : TableState} (h : LinkGrows s x) : LinkGrows s (x.setTables v) :=
  h.congr rfl

theorem setDraws_link {s x : State} {v : Nat} (h : LinkGrows s x) : LinkGrows s (x.setDraws v) :=
  h.congr rfl

theorem advance_link {s x : State} {dt : Nat} (h : LinkGrows s x) :
    LinkGrows s (advance dt x) := h.congr (by simp)

theorem setAlert_link {s x : State} {c : AlertCause} {b : Bool} (h : LinkGrows s x) :
    LinkGrows s (setAlert c b x) := h.congr (by simp)

theorem setMotion_link {s x : State} {i : Axis} {a : AxisMotion} (h : LinkGrows s x) :
    LinkGrows s (setMotion i a x) := h.congr (by simp)

theorem setAxisRec_link {s x : State} {i : Axis} {a : AxisRec} (h : LinkGrows s x) :
    LinkGrows s (setAxisRec i a x) := h.congr (by simp)

theorem setAxisGust_link {s x : State} {i : Axis} {a : AxisGust} (h : LinkGrows s x) :
    LinkGrows s (setAxisGust i a x) := h.congr (by simp)

theorem retireAt_link {s x : State} {t : Nat} (h : LinkGrows s x) :
    LinkGrows s (retireAt t x) := h.congr (by simp)

theorem dropChain_link {s x : State} {id : Nat} (h : LinkGrows s x) :
    LinkGrows s (dropChain id x) := h.congr (by simp)

theorem judgeMargin_link {s x : State} {t : Nat} (h : LinkGrows s x) :
    LinkGrows s (judgeMargin t x) := by
  unfold judgeMargin
  (repeat' (first | split | dsimp only)) <;>
    repeat
      first
      | assumption
      | (with_reducible apply latch_link)
      | (with_reducible apply setStore_link)
      | exact h.congr (by simp; done)

theorem rearmMargin_link {s x : State} {id : Nat} (h : LinkGrows s x) :
    LinkGrows s (rearmMargin id x) := h.congr (by simp)

theorem placeSegment_link {s x : State} {g : Segment} (h : LinkGrows s x) :
    LinkGrows s (placeSegment g x) := h.congr (by simp)

theorem clearClampRuns_link {s x : State} (h : LinkGrows s x) :
    LinkGrows s (clearClampRuns x) := h.congr (by simp)

theorem brakeAll_link {s x : State} (h : LinkGrows s x) :
    LinkGrows s (brakeAll x) := h.congr (by simp)

theorem brakeProjecting_link {s x : State} (h : LinkGrows s x) :
    LinkGrows s (brakeProjecting x) := h.congr (by simp)

theorem measuredHold_link {s x : State} (h : LinkGrows s x) :
    LinkGrows s (measuredHold x) := h.congr (by simp)

theorem requestPlan_link {s x : State} {k : PlanKind} {id : Option Nat} (h : LinkGrows s x) :
    LinkGrows s (requestPlan k id x) := h.congr (by simp)

theorem withdrawMarks_link {s x : State} {k : PlanKind} (h : LinkGrows s x) :
    LinkGrows s (withdrawMarks k x) := h.congr (by simp)

theorem installProfiles_link {s x : State} {r : PlanRec} (h : LinkGrows s x) :
    LinkGrows s (installProfiles r x) := h.congr (by simp)

theorem tellInstalled_link {s x : State} {r : PlanRec} (h : LinkGrows s x) :
    LinkGrows s (tellInstalled r x) := h.congr (by simp)

theorem installPlan_link {s x : State} {r : PlanRec} (h : LinkGrows s x) :
    LinkGrows s (installPlan r x) := h.congr (by simp)

theorem startWaiting_link {s x : State} (h : LinkGrows s x) :
    LinkGrows s (startWaiting x) := h.congr (by simp)

theorem discardPlan_link {s x : State} (h : LinkGrows s x) :
    LinkGrows s (discardPlan x) := h.congr (by simp)

theorem latchGuideChange_link {s x : State} {p : GuidePhase} (h : LinkGrows s x) :
    LinkGrows s (latchGuideChange p x) := by
  unfold latchGuideChange
  (repeat' (first | split | dsimp only)) <;>
    repeat
      first
      | assumption
      | (with_reducible apply latch_link)
      | exact h.congr (by simp; done)

theorem guideZero_link {s x : State} (h : LinkGrows s x) :
    LinkGrows s (guideZero x) := h.congr (by simp)

theorem guideBegin_link {s x : State} {m : GuideMode} (h : LinkGrows s x) :
    LinkGrows s (guideBegin m x) := by
  unfold guideBegin
  (repeat' (first | split | dsimp only)) <;>
    repeat
      first
      | assumption
      | (with_reducible apply latchGuideChange_link)
      | (with_reducible apply setGuide_link)
      | exact h.congr (by simp; done)

theorem guideStop_link {s x : State} (h : LinkGrows s x) :
    LinkGrows s (guideStop x) := by
  unfold guideStop
  (repeat' (first | split | dsimp only)) <;>
    repeat
      first
      | assumption
      | (with_reducible apply latchGuideChange_link)
      | (with_reducible apply setGuide_link)
      | exact h.congr (by simp; done)

theorem guideSuspend_link {s x : State} (h : LinkGrows s x) :
    LinkGrows s (guideSuspend x) := by
  unfold guideSuspend
  (repeat' (first | split | dsimp only)) <;>
    repeat
      first
      | assumption
      | (with_reducible apply latchGuideChange_link)
      | (with_reducible apply setGuide_link)
      | exact h.congr (by simp; done)

theorem guideUnsuspend_link {s x : State} (h : LinkGrows s x) :
    LinkGrows s (guideUnsuspend x) := by
  unfold guideUnsuspend
  (repeat' (first | split | dsimp only)) <;>
    repeat
      first
      | assumption
      | (with_reducible apply latchGuideChange_link)
      | (with_reducible apply setGuide_link)
      | exact h.congr (by simp; done)

theorem acceptCorrection_link {s x : State} {q : BitVec 16} {az el : GuideMove} (h : LinkGrows s x) :
    LinkGrows s (acceptCorrection q az el x) := by
  unfold acceptCorrection
  (repeat' (first | split | dsimp only)) <;>
    repeat
      first
      | assumption
      | (with_reducible apply latchGuideChange_link)
      | (with_reducible apply setGuide_link)
      | exact h.congr (by simp; done)

theorem silenceExpires_link {s x : State} {e : Nat} (h : LinkGrows s x) :
    LinkGrows s (silenceExpires e x) := by
  unfold silenceExpires
  (repeat' (first | split | dsimp only)) <;>
    repeat
      first
      | assumption
      | (with_reducible apply latchGuideChange_link)
      | (with_reducible apply setGuide_link)
      | exact h.congr (by simp; done)

theorem compareOne_link {s x : State} {id : Nat} (h : LinkGrows s x) :
    LinkGrows s (compareOne id x) := by
  unfold compareOne
  (repeat' (first | split | dsimp only)) <;>
    repeat
      first
      | assumption
      | (with_reducible apply latch_link)
      | (with_reducible apply dropChain_link)
      | exact h.congr (by simp; done)

theorem compareWindow_link {s : State} (ids : List Nat) {x : State} (h : LinkGrows s x) :
    LinkGrows s (compareWindow ids x) := by
  induction ids generalizing x with
  | nil => exact h
  | cons id rest ih => exact ih (compareOne_link h)

theorem latchIfEmpty_link {s x : State} (h : LinkGrows s x) :
    LinkGrows s (latchIfEmpty x) := by
  unfold latchIfEmpty
  (repeat' (first | split | dsimp only)) <;>
    repeat
      first
      | assumption
      | (with_reducible apply latch_link)
      | exact h.congr (by simp; done)

theorem stopWaits_link {s x : State} (h : LinkGrows s x) :
    LinkGrows s (stopWaits x) := h.congr (by simp)

theorem followHead_link {s x : State} {b : Option Nat} (h : LinkGrows s x) :
    LinkGrows s (followHead b x) := h.congr (by simp)

theorem refreshPreemptTimer_link {s x : State} (h : LinkGrows s x) :
    LinkGrows s (refreshPreemptTimer x) := h.congr (by simp)

theorem skipHead_link {s x : State} {o : Ending} {e : Entry} {rest : List Entry} (h : LinkGrows s x) :
    LinkGrows s (skipHead o e rest x) := by
  unfold skipHead
  (repeat' (first | split | dsimp only)) <;>
    repeat
      first
      | assumption
      | (with_reducible apply latch_link)
      | (with_reducible apply dropChain_link)
      | (with_reducible apply latchIfEmpty_link)
      | (with_reducible apply setSeq_link)
      | exact h.congr (by simp; done)

theorem activate_link {s x : State} {e : Entry} {rest : List Entry} (h : LinkGrows s x) :
    LinkGrows s (activate e rest x) := by
  unfold activate
  (repeat' (first | split | dsimp only)) <;>
    repeat
      first
      | assumption
      | (with_reducible apply latch_link)
      | (with_reducible apply requestPlan_link)
      | (with_reducible apply clearClampRuns_link)
      | (with_reducible apply guideZero_link)
      | (with_reducible apply refreshPreemptTimer_link)
      | (with_reducible apply setSeq_link)
      | (with_reducible apply setStore_link)
      | exact h.congr (by simp; done)

theorem waitForTrack_link {s x : State} {e : Entry} {rest : List Entry} {t : Nat} (h : LinkGrows s x) :
    LinkGrows s (waitForTrack e rest t x) := h.congr (by simp)

theorem selectRounds_link {s : State} (n : Nat) {x : State} (h : LinkGrows s x) :
    LinkGrows s (selectRounds n x) := by
  induction n generalizing x with
  | zero => exact h
  | succ n ih =>
    unfold selectRounds
    repeat' split
    all_goals first
      | exact h
      | exact ih (skipHead_link h)
      | exact activate_link h
      | exact h.congr (by simp)

theorem select_link {s x : State} (h : LinkGrows s x) :
    LinkGrows s (select x) := by
  unfold select
  (repeat' (first | split | dsimp only)) <;>
    repeat
      first
      | assumption
      | (with_reducible apply stopWaits_link)
      | (with_reducible apply selectRounds_link)
      | exact h.congr (by simp; done)

theorem closeRecord_link {s x : State} {o : Ending} {back : Option Entry} (h : LinkGrows s x) :
    LinkGrows s (closeRecord o back x) := h.congr (by simp)

theorem brakeIfIdle_link {s x : State} (h : LinkGrows s x) :
    LinkGrows s (brakeIfIdle x) := h.congr (by simp)

theorem closeObservation_link {s x : State} {o : Ending} {back : Option Entry} (h : LinkGrows s x) :
    LinkGrows s (closeObservation o back x) := by
  unfold closeObservation
  (repeat' (first | split | dsimp only)) <;>
    repeat
      first
      | assumption
      | (with_reducible apply latch_link)
      | (with_reducible apply withdrawMarks_link)
      | (with_reducible apply guideStop_link)
      | (with_reducible apply latchIfEmpty_link)
      | (with_reducible apply closeRecord_link)
      | exact h.congr (by simp; done)

theorem endObservation_link {s x : State} {o : Ending} (h : LinkGrows s x) :
    LinkGrows s (endObservation o x) := by
  unfold endObservation
  (repeat' (first | split | dsimp only)) <;>
    repeat
      first
      | assumption
      | (with_reducible apply compareWindow_link)
      | (with_reducible apply select_link)
      | (with_reducible apply brakeIfIdle_link)
      | (with_reducible apply closeObservation_link)
      | exact h.congr (by simp; done)

theorem endPreempted_link {s x : State} {e : Entry} (h : LinkGrows s x) :
    LinkGrows s (endPreempted e x) := by
  unfold endPreempted
  (repeat' (first | split | dsimp only)) <;>
    repeat
      first
      | assumption
      | (with_reducible apply compareWindow_link)
      | (with_reducible apply select_link)
      | (with_reducible apply brakeIfIdle_link)
      | (with_reducible apply closeObservation_link)
      | exact h.congr (by simp; done)

theorem examinePreemption_link {s x : State} (h : LinkGrows s x) :
    LinkGrows s (examinePreemption x) := by
  unfold examinePreemption
  (repeat' (first | split | dsimp only)) <;>
    repeat
      first
      | assumption
      | (with_reducible apply endPreempted_link)
      | exact h.congr (by simp; done)

theorem selectOrPreempt_link {s x : State} (h : LinkGrows s x) :
    LinkGrows s (selectOrPreempt x) := by
  unfold selectOrPreempt
  (repeat' (first | split | dsimp only)) <;>
    repeat
      first
      | assumption
      | (with_reducible apply select_link)
      | (with_reducible apply examinePreemption_link)
      | exact h.congr (by simp; done)

theorem addHold_link {s x : State} {r : HoldReason} (h : LinkGrows s x) :
    LinkGrows s (addHold r x) := h.congr (by simp)

theorem dropHold_link {s x : State} {r : HoldReason} (h : LinkGrows s x) :
    LinkGrows s (dropHold r x) := h.congr (by simp)

theorem clearHold_link {s x : State} {r : HoldReason} (h : LinkGrows s x) :
    LinkGrows s (clearHold r x) := by
  unfold clearHold
  (repeat' (first | split | dsimp only)) <;>
    repeat
      first
      | assumption
      | (with_reducible apply selectOrPreempt_link)
      | (with_reducible apply dropHold_link)
      | exact h.congr (by simp; done)

theorem stopRun_link {s x : State} (h : LinkGrows s x) :
    LinkGrows s (stopRun x) := h.congr (by simp)

theorem startRun_link {s x : State} (h : LinkGrows s x) :
    LinkGrows s (startRun x) := by
  unfold startRun
  (repeat' (first | split | dsimp only)) <;>
    repeat
      first
      | assumption
      | (with_reducible apply select_link)
      | (with_reducible apply setSeq_link)
      | exact h.congr (by simp; done)

theorem beginTracking_link {s x : State} (h : LinkGrows s x) :
    LinkGrows s (beginTracking x) := by
  unfold beginTracking
  (repeat' (first | split | dsimp only)) <;>
    repeat
      first
      | assumption
      | (with_reducible apply latch_link)
      | (with_reducible apply guideBegin_link)
      | (with_reducible apply setSeq_link)
      | exact h.congr (by simp; done)

theorem seqReport_link {s x : State} {i : Axis} {fe : Int} (h : LinkGrows s x) :
    LinkGrows s (seqReport i fe x) := by
  unfold seqReport
  (repeat' (first | split | dsimp only)) <;>
    repeat
      first
      | assumption
      | (with_reducible apply beginTracking_link)
      | (with_reducible apply setSeq_link)
      | exact h.congr (by simp; done)

theorem startSlewing_link {s x : State} {t : Nat} (h : LinkGrows s x) :
    LinkGrows s (startSlewing t x) := h.congr (by simp)

theorem startSettling_link {s x : State} (h : LinkGrows s x) :
    LinkGrows s (startSettling x) := h.congr (by simp)

theorem countTracked_link {s x : State} {t : Nat} (h : LinkGrows s x) :
    LinkGrows s (countTracked t x) := h.congr (by simp)

theorem judgeDwell_link {s x : State} {t : Nat} (h : LinkGrows s x) :
    LinkGrows s (judgeDwell t x) := by
  unfold judgeDwell
  (repeat' (first | split | dsimp only)) <;>
    repeat
      first
      | assumption
      | (with_reducible apply endObservation_link)
      | exact h.congr (by simp; done)

theorem tellSegment_link {s x : State} {id : Nat} (h : LinkGrows s x) :
    LinkGrows s (tellSegment id x) := by
  unfold tellSegment
  (repeat' (first | split | dsimp only)) <;>
    repeat
      first
      | assumption
      | (with_reducible apply selectOrPreempt_link)
      | (with_reducible apply setSeq_link)
      | exact h.congr (by simp; done)

theorem releaseLevel_link {s x : State} (h : LinkGrows s x) :
    LinkGrows s (releaseLevel x) := by
  unfold releaseLevel
  (repeat' (first | split | dsimp only)) <;>
    repeat
      first
      | assumption
      | (with_reducible apply guideUnsuspend_link)
      | (with_reducible apply clearHold_link)
      | (with_reducible apply setGust_link)
      | exact h.congr (by simp; done)

theorem endRestByMode_link {s x : State} (h : LinkGrows s x) :
    LinkGrows s (endRestByMode x) := by
  unfold endRestByMode
  (repeat' (first | split | dsimp only)) <;>
    repeat
      first
      | assumption
      | (with_reducible apply setAlert_link)
      | (with_reducible apply clearHold_link)
      | (with_reducible apply setBus_link)
      | (with_reducible apply setGust_link)
      | exact h.congr (by simp; done)

theorem endRest_link {s x : State} (h : LinkGrows s x) :
    LinkGrows s (endRest x) := by
  unfold endRest
  (repeat' (first | split | dsimp only)) <;>
    repeat
      first
      | assumption
      | (with_reducible apply setAlert_link)
      | (with_reducible apply clearHold_link)
      | (with_reducible apply setGust_link)
      | exact h.congr (by simp; done)

theorem startCheck_link {s x : State} {t : Nat} (h : LinkGrows s x) :
    LinkGrows s (startCheck t x) := h.congr (by simp)

theorem overrideOff_link {s x : State} (h : LinkGrows s x) :
    LinkGrows s (overrideOff x) := h.congr (by simp)

theorem reenable_link {s x : State} {t : Nat} (h : LinkGrows s x) :
    LinkGrows s (reenable t x) := h.congr (by simp)

theorem restAtStop_link {s x : State} (h : LinkGrows s x) :
    LinkGrows s (restAtStop x) := by
  unfold restAtStop
  (repeat' (first | split | dsimp only)) <;>
    repeat
      first
      | assumption
      | (with_reducible apply endRest_link)
      | (with_reducible apply overrideOff_link)
      | (with_reducible apply reenable_link)
      | exact h.congr (by simp; done)

theorem restAtMotion_link {s x : State} (h : LinkGrows s x) :
    LinkGrows s (restAtMotion x) := by
  unfold restAtMotion
  (repeat' (first | split | dsimp only)) <;>
    repeat
      first
      | assumption
      | (with_reducible apply endRest_link)
      | (with_reducible apply startCheck_link)
      | (with_reducible apply overrideOff_link)
      | exact h.congr (by simp; done)

theorem supervisionOff_link {s x : State} (h : LinkGrows s x) :
    LinkGrows s (supervisionOff x) := h.congr (by simp)

theorem supervisionEnter_link {s x : State} (h : LinkGrows s x) :
    LinkGrows s (supervisionEnter x) := h.congr (by simp)

theorem settleOff_link {s x : State} (h : LinkGrows s x) :
    LinkGrows s (settleOff x) := h.congr (by simp)

theorem leaveMode_link {s x : State} {old new : Mode} (h : LinkGrows s x) :
    LinkGrows s (leaveMode old new x) := h.congr (by simp)

theorem settleGust_link {s x : State} {m : Mode} (h : LinkGrows s x) :
    LinkGrows s (settleGust m x) := by
  unfold settleGust
  (repeat' (first | split | dsimp only)) <;>
    repeat
      first
      | assumption
      | (with_reducible apply releaseLevel_link)
      | (with_reducible apply endRestByMode_link)
      | exact h.congr (by simp; done)

theorem modeAlerts_link {s x : State} {m : Mode} (h : LinkGrows s x) :
    LinkGrows s (modeAlerts m x) := h.congr (by simp)

theorem changeMode_link {s x : State} {m : Mode} (h : LinkGrows s x) :
    LinkGrows s (changeMode m x) := by
  unfold changeMode
  (repeat' (first | split | dsimp only)) <;>
    repeat
      first
      | assumption
      | (with_reducible apply latch_link)
      | (with_reducible apply leaveMode_link)
      | (with_reducible apply settleGust_link)
      | (with_reducible apply modeAlerts_link)
      | (with_reducible apply setMode_link)
      | exact h.congr (by simp; done)

theorem startEnabling_link {s x : State} (h : LinkGrows s x) :
    LinkGrows s (startEnabling x) := h.congr (by simp)

theorem enterFault_link {s x : State} (h : LinkGrows s x) :
    LinkGrows s (enterFault x) := by
  unfold enterFault
  (repeat' (first | split | dsimp only)) <;>
    repeat
      first
      | assumption
      | (with_reducible apply endObservation_link)
      | (with_reducible apply changeMode_link)
      | exact h.congr (by simp; done)

theorem awaitSettle_link {s x : State} (h : LinkGrows s x) :
    LinkGrows s (awaitSettle x) := h.congr (by simp)

theorem beginStow_link {s x : State} (h : LinkGrows s x) :
    LinkGrows s (beginStow x) := by
  unfold beginStow
  (repeat' (first | split | dsimp only)) <;>
    repeat
      first
      | assumption
      | (with_reducible apply requestPlan_link)
      | (with_reducible apply endObservation_link)
      | (with_reducible apply restAtMotion_link)
      | (with_reducible apply changeMode_link)
      | (with_reducible apply awaitSettle_link)
      | exact h.congr (by simp; done)

theorem beginPark_link {s x : State} (h : LinkGrows s x) :
    LinkGrows s (beginPark x) := by
  unfold beginPark
  (repeat' (first | split | dsimp only)) <;>
    repeat
      first
      | assumption
      | (with_reducible apply requestPlan_link)
      | (with_reducible apply endObservation_link)
      | (with_reducible apply restAtMotion_link)
      | (with_reducible apply changeMode_link)
      | (with_reducible apply awaitSettle_link)
      | exact h.congr (by simp; done)

theorem makeReady_link {s x : State} (h : LinkGrows s x) :
    LinkGrows s (makeReady x) := by
  unfold makeReady
  (repeat' (first | split | dsimp only)) <;>
    repeat
      first
      | assumption
      | (with_reducible apply supervisionEnter_link)
      | (with_reducible apply changeMode_link)
      | exact h.congr (by simp; done)

theorem countFailure_link {s x : State} (h : LinkGrows s x) :
    LinkGrows s (countFailure x) := by
  unfold countFailure
  (repeat' (first | split | dsimp only)) <;>
    repeat
      first
      | assumption
      | (with_reducible apply latch_link)
      | (with_reducible apply setAlert_link)
      | (with_reducible apply addHold_link)
      | (with_reducible apply setMode_link)
      | exact h.congr (by simp; done)

theorem superviseFail_link {s x : State} (h : LinkGrows s x) :
    LinkGrows s (superviseFail x) := by
  unfold superviseFail
  (repeat' (first | split | dsimp only)) <;>
    repeat
      first
      | assumption
      | (with_reducible apply beginStow_link)
      | (with_reducible apply countFailure_link)
      | exact h.congr (by simp; done)

theorem countKeepalive_link {s x : State} {b : Bool} {p : Nat} (h : LinkGrows s x) :
    LinkGrows s (countKeepalive b p x) := by
  unfold countKeepalive
  (repeat' (first | split | dsimp only)) <;>
    repeat
      first
      | assumption
      | (with_reducible apply setAlert_link)
      | (with_reducible apply clearHold_link)
      | (with_reducible apply setMode_link)
      | exact h.congr (by simp; done)

theorem axisProblem_link {s x : State} (h : LinkGrows s x) :
    LinkGrows s (axisProblem x) := by
  unfold axisProblem
  (repeat' (first | split | dsimp only)) <;>
    repeat
      first
      | assumption
      | (with_reducible apply latch_link)
      | (with_reducible apply enterFault_link)
      | exact h.congr (by simp; done)

theorem markEnabled_link {s x : State} {i : Axis} (h : LinkGrows s x) :
    LinkGrows s (markEnabled i x) := by
  unfold markEnabled
  (repeat' (first | split | dsimp only)) <;>
    repeat
      first
      | assumption
      | (with_reducible apply makeReady_link)
      | (with_reducible apply setMode_link)
      | exact h.congr (by simp; done)

theorem countMotion_link {s x : State} {i : Axis} {fe : Int} (h : LinkGrows s x) :
    LinkGrows s (countMotion i fe x) := by
  unfold countMotion
  (repeat' (first | split | dsimp only)) <;>
    repeat
      first
      | assumption
      | (with_reducible apply changeMode_link)
      | (with_reducible apply setMode_link)
      | exact h.congr (by simp; done)

theorem modeReport_link {s x : State} {i : Axis} {d : DriveState} {fe : Option Int} {b : Bool} (h : LinkGrows s x) :
    LinkGrows s (modeReport i d fe b x) := by
  unfold modeReport
  (repeat' (first | split | dsimp only)) <;>
    repeat
      first
      | assumption
      | (with_reducible apply axisProblem_link)
      | (with_reducible apply markEnabled_link)
      | (with_reducible apply countMotion_link)
      | exact h.congr (by simp; done)

theorem startCounting_link {s x : State} {t : Nat} (h : LinkGrows s x) :
    LinkGrows s (startCounting t x) := h.congr (by simp)

theorem judgeRunaway_link {s x : State} {i : Axis} {fe : Int} (h : LinkGrows s x) :
    LinkGrows s (judgeRunaway i fe x) := by
  unfold judgeRunaway
  (repeat' (first | split | dsimp only)) <;>
    repeat
      first
      | assumption
      | (with_reducible apply setAxisGust_link)
      | (with_reducible apply enterFault_link)
      | (with_reducible apply setGust_link)
      | exact h.congr (by simp; done)

theorem beginRest_link {s x : State} (h : LinkGrows s x) :
    LinkGrows s (beginRest x) := h.congr (by simp)

theorem gustStow_link {s x : State} (h : LinkGrows s x) :
    LinkGrows s (gustStow x) := by
  unfold gustStow
  (repeat' (first | split | dsimp only)) <;>
    repeat
      first
      | assumption
      | (with_reducible apply clearHold_link)
      | (with_reducible apply beginStow_link)
      | (with_reducible apply setGust_link)
      | exact h.congr (by simp; done)

theorem countLevelTwo_link {s x : State} (h : LinkGrows s x) :
    LinkGrows s (countLevelTwo x) := h.congr (by simp)

theorem levelTwo_link {s x : State} (h : LinkGrows s x) :
    LinkGrows s (levelTwo x) := by
  unfold levelTwo
  (repeat' (first | split | dsimp only)) <;>
    repeat
      first
      | assumption
      | (with_reducible apply latch_link)
      | (with_reducible apply setAlert_link)
      | (with_reducible apply endObservation_link)
      | (with_reducible apply addHold_link)
      | (with_reducible apply beginRest_link)
      | (with_reducible apply gustStow_link)
      | (with_reducible apply countLevelTwo_link)
      | exact h.congr (by simp; done)

theorem judgeWarn_link {s x : State} {i : Axis} (h : LinkGrows s x) :
    LinkGrows s (judgeWarn i x) := by
  unfold judgeWarn
  (repeat' (first | split | dsimp only)) <;>
    repeat
      first
      | assumption
      | (with_reducible apply latch_link)
      | (with_reducible apply setAxisGust_link)
      | exact h.congr (by simp; done)

theorem enterLevelOne_link {s x : State} (h : LinkGrows s x) :
    LinkGrows s (enterLevelOne x) := by
  unfold enterLevelOne
  (repeat' (first | split | dsimp only)) <;>
    repeat
      first
      | assumption
      | (with_reducible apply latch_link)
      | (with_reducible apply guideSuspend_link)
      | (with_reducible apply addHold_link)
      | (with_reducible apply setGust_link)
      | exact h.congr (by simp; done)

theorem judgeLevelOne_link {s x : State} {i : Axis} (h : LinkGrows s x) :
    LinkGrows s (judgeLevelOne i x) := by
  unfold judgeLevelOne
  (repeat' (first | split | dsimp only)) <;>
    repeat
      first
      | assumption
      | (with_reducible apply enterLevelOne_link)
      | exact h.congr (by simp; done)

theorem judgeLevelTwo_link {s x : State} {i : Axis} (h : LinkGrows s x) :
    LinkGrows s (judgeLevelTwo i x) := by
  unfold judgeLevelTwo
  (repeat' (first | split | dsimp only)) <;>
    repeat
      first
      | assumption
      | (with_reducible apply levelTwo_link)
      | exact h.congr (by simp; done)

theorem judgeRelease_link {s x : State} {i : Axis} {b : Bool} (h : LinkGrows s x) :
    LinkGrows s (judgeRelease i b x) := by
  unfold judgeRelease
  (repeat' (first | split | dsimp only)) <;>
    repeat
      first
      | assumption
      | (with_reducible apply setAxisGust_link)
      | (with_reducible apply releaseLevel_link)
      | exact h.congr (by simp; done)

theorem judgeLevels_link {s x : State} {i : Axis} {fe : Int} (h : LinkGrows s x) :
    LinkGrows s (judgeLevels i fe x) := by
  unfold judgeLevels
  (repeat' (first | split | dsimp only)) <;>
    repeat
      first
      | assumption
      | (with_reducible apply setAxisGust_link)
      | (with_reducible apply judgeWarn_link)
      | (with_reducible apply judgeLevelOne_link)
      | (with_reducible apply judgeLevelTwo_link)
      | (with_reducible apply judgeRelease_link)
      | exact h.congr (by simp; done)

theorem judgeCheck_link {s x : State} {i : Axis} {d : DriveState} (h : LinkGrows s x) :
    LinkGrows s (judgeCheck i d x) := by
  unfold judgeCheck
  (repeat' (first | split | dsimp only)) <;>
    repeat
      first
      | assumption
      | (with_reducible apply setAxisGust_link)
      | (with_reducible apply endRest_link)
      | exact h.congr (by simp; done)

theorem gustReport_link {s x : State} {i : Axis} {d : DriveState} {fe : Option Int} (h : LinkGrows s x) :
    LinkGrows s (gustReport i d fe x) := by
  unfold gustReport
  (repeat' (first | split | dsimp only)) <;>
    repeat
      first
      | assumption
      | (with_reducible apply judgeRunaway_link)
      | (with_reducible apply judgeLevels_link)
      | (with_reducible apply judgeCheck_link)
      | exact h.congr (by simp; done)

theorem overrideAtEmit_link {s x : State} (h : LinkGrows s x) :
    LinkGrows s (overrideAtEmit x) := h.congr (by simp)

theorem sendAxis_link {s x : State} {i : Axis} {q : BitVec 16} {p : Option Int} {b : Bool} (h : LinkGrows s x) :
    LinkGrows s (sendAxis i q p b x) := by
  unfold sendAxis
  (repeat' (first | split | dsimp only)) <;>
    repeat
      first
      | assumption
      | (with_reducible apply setAxisRec_link)
      | (with_reducible apply axisProblem_link)
      | exact h.congr (by simp; done)

theorem sendFrame_link {s x : State} {t : Nat} {p : Tri (Option Int)} {v : Tri Int} (h : LinkGrows s x) :
    LinkGrows s (sendFrame t p v x) := by
  unfold sendFrame
  (repeat' (first | split | dsimp only)) <;>
    repeat
      first
      | assumption
      | (with_reducible apply sendAxis_link)
      | (with_reducible apply setBus_link)
      | exact h.congr (by simp; done)

theorem setUnset_link {s x : State} {i : Axis} {m : Int} (h : LinkGrows s x) :
    LinkGrows s (setUnset i m x) := h.congr (by simp)

theorem seqReportOpt_link {s x : State} {i : Axis} {fe : Option Int} (h : LinkGrows s x) :
    LinkGrows s (seqReportOpt i fe x) := by
  unfold seqReportOpt
  (repeat' (first | split | dsimp only)) <;>
    repeat
      first
      | assumption
      | (with_reducible apply seqReport_link)
      | exact h.congr (by simp; done)

theorem takeMatched_link {s x : State} {r : Report} {en : HistEntry} (h : LinkGrows s x) :
    LinkGrows s (takeMatched r en x) := by
  unfold takeMatched
  (repeat' (first | split | dsimp only)) <;>
    repeat
      first
      | assumption
      | (with_reducible apply setAxisRec_link)
      | (with_reducible apply modeReport_link)
      | (with_reducible apply gustReport_link)
      | (with_reducible apply setUnset_link)
      | (with_reducible apply seqReportOpt_link)
      | exact h.congr (by simp; done)

theorem takeReport_link {s x : State} {r : Report} (h : LinkGrows s x) :
    LinkGrows s (takeReport r x) := by
  unfold takeReport
  (repeat' (first | split | dsimp only)) <;>
    repeat
      first
      | assumption
      | (with_reducible apply setAxisRec_link)
      | (with_reducible apply takeMatched_link)
      | exact h.congr (by simp; done)

theorem countCorrupted_link {s x : State} (h : LinkGrows s x) :
    LinkGrows s (countCorrupted x) := h.congr (by simp)

theorem emit_link {s x : State} {t : Nat} {f : Tri Formed} {l : Tri Limited} (h : LinkGrows s x) :
    LinkGrows s (emit t f l x) := by
  unfold emit
  (repeat' (first | split | dsimp only)) <;>
    repeat
      first
      | assumption
      | (with_reducible apply overrideAtEmit_link)
      | (with_reducible apply sendFrame_link)
      | (with_reducible apply setTraj_link)
      | exact h.congr (by simp; done)

theorem takeCause_link {s x : State} {c : Option Ending} (h : LinkGrows s x) :
    LinkGrows s (takeCause c x) := by
  unfold takeCause
  (repeat' (first | split | dsimp only)) <;>
    repeat
      first
      | assumption
      | (with_reducible apply endObservation_link)
      | exact h.congr (by simp; done)

theorem keepCoverage_link {s x : State} {inp : Inputs} {f : Tri Formed} (h : LinkGrows s x) :
    LinkGrows s (keepCoverage inp f x) := h.congr (by simp)

theorem sequencerAtExpiry_link {s x : State} {t : Nat} {c : Option Ending} (h : LinkGrows s x) :
    LinkGrows s (sequencerAtExpiry t c x) := by
  unfold sequencerAtExpiry
  (repeat' (first | split | dsimp only)) <;>
    repeat
      first
      | assumption
      | (with_reducible apply startSlewing_link)
      | (with_reducible apply startSettling_link)
      | (with_reducible apply countTracked_link)
      | (with_reducible apply judgeDwell_link)
      | (with_reducible apply takeCause_link)
      | exact h.congr (by simp; done)

theorem beginExpiry_link {s x : State} (h : LinkGrows s x) :
    LinkGrows s (beginExpiry x) := by
  unfold beginExpiry
  (repeat' (first | split | dsimp only)) <;>
    repeat
      first
      | assumption
      | (with_reducible apply retireAt_link)
      | (with_reducible apply judgeMargin_link)
      | (with_reducible apply setTraj_link)
      | exact h.congr (by simp; done)

theorem runExpiry_link {s x : State} (h : LinkGrows s x) :
    LinkGrows s (runExpiry x) := by
  unfold runExpiry
  (repeat' (first | split | dsimp only)) <;>
    repeat
      first
      | assumption
      | (with_reducible apply startCounting_link)
      | (with_reducible apply emit_link)
      | (with_reducible apply keepCoverage_link)
      | (with_reducible apply sequencerAtExpiry_link)
      | exact h.congr (by simp; done)

theorem expiry_link {s x : State} (h : LinkGrows s x) :
    LinkGrows s (expiry x) := by
  unfold expiry
  (repeat' (first | split | dsimp only)) <;>
    repeat
      first
      | assumption
      | (with_reducible apply beginExpiry_link)
      | (with_reducible apply runExpiry_link)
      | exact h.congr (by simp; done)

end Sys2Proof.Machine
end

