-- ==== Sys2Proof/WellFormed.lean ====
section
/-! DEFINITION. Which commands are well formed. -/

namespace Sys2Proof

/-- The octets received inside one frame hold no delimiter (R200: 0x7E delimits frames; a delimiter that cuts a
frame short ends the list of its octets). -/
def noDelimiter (octets : List Byte) : Bool :=
  octets.all (· != 0x7E)

/-- A delay that Mount Time can count (R179). -/
def delayOk (dt : Nat) : Bool := decide (dt ≤ Config.maxTime)

/-- A well-formed command: its delay is countable and its octets are those of one frame. -/
def Instr.wf : Instr → Bool
  | .powerOnReset _ => true
  | .linkReset dt => delayOk dt
  | .mountLinkFrame dt octets => delayOk dt && noDelimiter octets
  | .replySent dt => delayOk dt
  | .unknownKind dt => delayOk dt
  | .eventNotice dt => delayOk dt
  | .timeSet dt => delayOk dt
  | .keepalive dt => delayOk dt
  | .unpark dt => delayOk dt
  | .run dt => delayOk dt
  | .stop dt => delayOk dt
  | .hold dt => delayOk dt
  | .resume dt => delayOk dt
  | .park dt => delayOk dt
  | .stow dt => delayOk dt
  | .release dt => delayOk dt
  | .faultClear dt => delayOk dt
  | .reset dt => delayOk dt
  | .entryAdd dt => delayOk dt
  | .entryWithdraw dt => delayOk dt
  | .listRead dt => delayOk dt
  | .outcomeFetch dt => delayOk dt
  | .segmentPut dt => delayOk dt
  | .guideCorrection dt => delayOk dt
  | .loadBegin dt => delayOk dt
  | .loadData dt => delayOk dt
  | .loadBurstEnd dt => delayOk dt
  | .loadEnd dt => delayOk dt
  | .loadAbort dt => delayOk dt
  | .tableRead dt => delayOk dt
  | .capabilityRead dt => delayOk dt
  | .statusRead dt => delayOk dt
  | .eventReadClear dt => delayOk dt
  | .eventMaskSet dt => delayOk dt
  | .encoderReport dt octets => delayOk dt && noDelimiter octets
  | .demandExpiry dt => delayOk dt
  | .notBeforeTimer dt => delayOk dt
  | .deadlineTimer dt => delayOk dt
  | .trackWaitTimer dt => delayOk dt
  | .settleDeadline dt => delayOk dt
  | .silenceTimer dt => delayOk dt
  | .acquireTimer dt => delayOk dt
  | .lostTimer dt => delayOk dt
  | .restTimer dt => delayOk dt
  | .checkTimer dt => delayOk dt
  | .decayTimer dt => delayOk dt
  | .enablingTimer dt => delayOk dt
  | .motionSettleDeadline dt => delayOk dt
  | .supervisionTimer dt => delayOk dt
  | .planPass dt => delayOk dt
  | .planCompletion dt => delayOk dt
  | .mountTimeHold => true

end Sys2Proof
end

