-- ==== Sys2Proof/Laws/PerInstr.lean ====
section
/-! SUPPORT. Statements made for each command of the table. -/

namespace Sys2Proof.Laws

/-- The delay of a command, 0 for the two that carry none. -/
def delayOf : Instr → Nat
  | .powerOnReset _ => 0
  | .linkReset dt => dt
  | .mountLinkFrame dt _ => dt
  | .replySent dt => dt
  | .unknownKind dt => dt
  | .eventNotice dt => dt
  | .timeSet dt => dt
  | .keepalive dt => dt
  | .unpark dt => dt
  | .run dt => dt
  | .stop dt => dt
  | .hold dt => dt
  | .resume dt => dt
  | .park dt => dt
  | .stow dt => dt
  | .release dt => dt
  | .faultClear dt => dt
  | .reset dt => dt
  | .entryAdd dt => dt
  | .entryWithdraw dt => dt
  | .listRead dt => dt
  | .outcomeFetch dt => dt
  | .segmentPut dt => dt
  | .guideCorrection dt => dt
  | .loadBegin dt => dt
  | .loadData dt => dt
  | .loadBurstEnd dt => dt
  | .loadEnd dt => dt
  | .loadAbort dt => dt
  | .tableRead dt => dt
  | .capabilityRead dt => dt
  | .statusRead dt => dt
  | .eventReadClear dt => dt
  | .eventMaskSet dt => dt
  | .encoderReport dt _ => dt
  | .demandExpiry dt => dt
  | .notBeforeTimer dt => dt
  | .deadlineTimer dt => dt
  | .trackWaitTimer dt => dt
  | .settleDeadline dt => dt
  | .silenceTimer dt => dt
  | .acquireTimer dt => dt
  | .lostTimer dt => dt
  | .restTimer dt => dt
  | .checkTimer dt => dt
  | .decayTimer dt => dt
  | .enablingTimer dt => dt
  | .motionSettleDeadline dt => dt
  | .supervisionTimer dt => dt
  | .planPass dt => dt
  | .planCompletion dt => dt
  | .mountTimeHold => 0

namespace WellFormedDelay

/-- R179: the delay of a well-formed command is one that Mount Time can count. -/
def Statement (i : Instr) : Prop := i.wf = true → delayOf i ≤ 281474976710655

theorem powerOnReset (strapHigh : Bool) : Statement (.powerOnReset strapHigh) :=
  fun _ => Nat.zero_le _

theorem linkReset (dt : Nat) : Statement (.linkReset dt) :=
  fun h => of_decide_eq_true h

theorem mountLinkFrame (dt : Nat) (octets : List Byte) : Statement (.mountLinkFrame dt octets) :=
  fun h => of_decide_eq_true (Bool.and_eq_true_iff.mp h).1

theorem replySent (dt : Nat) : Statement (.replySent dt) :=
  fun h => of_decide_eq_true h

theorem unknownKind (dt : Nat) : Statement (.unknownKind dt) :=
  fun h => of_decide_eq_true h

theorem eventNotice (dt : Nat) : Statement (.eventNotice dt) :=
  fun h => of_decide_eq_true h

theorem timeSet (dt : Nat) : Statement (.timeSet dt) :=
  fun h => of_decide_eq_true h

theorem keepalive (dt : Nat) : Statement (.keepalive dt) :=
  fun h => of_decide_eq_true h

theorem unpark (dt : Nat) : Statement (.unpark dt) :=
  fun h => of_decide_eq_true h

theorem run (dt : Nat) : Statement (.run dt) :=
  fun h => of_decide_eq_true h

theorem stop (dt : Nat) : Statement (.stop dt) :=
  fun h => of_decide_eq_true h

theorem hold (dt : Nat) : Statement (.hold dt) :=
  fun h => of_decide_eq_true h

theorem resume (dt : Nat) : Statement (.resume dt) :=
  fun h => of_decide_eq_true h

theorem park (dt : Nat) : Statement (.park dt) :=
  fun h => of_decide_eq_true h

theorem stow (dt : Nat) : Statement (.stow dt) :=
  fun h => of_decide_eq_true h

theorem release (dt : Nat) : Statement (.release dt) :=
  fun h => of_decide_eq_true h

theorem faultClear (dt : Nat) : Statement (.faultClear dt) :=
  fun h => of_decide_eq_true h

theorem reset (dt : Nat) : Statement (.reset dt) :=
  fun h => of_decide_eq_true h

theorem entryAdd (dt : Nat) : Statement (.entryAdd dt) :=
  fun h => of_decide_eq_true h

theorem entryWithdraw (dt : Nat) : Statement (.entryWithdraw dt) :=
  fun h => of_decide_eq_true h

theorem listRead (dt : Nat) : Statement (.listRead dt) :=
  fun h => of_decide_eq_true h

theorem outcomeFetch (dt : Nat) : Statement (.outcomeFetch dt) :=
  fun h => of_decide_eq_true h

theorem segmentPut (dt : Nat) : Statement (.segmentPut dt) :=
  fun h => of_decide_eq_true h

theorem guideCorrection (dt : Nat) : Statement (.guideCorrection dt) :=
  fun h => of_decide_eq_true h

theorem loadBegin (dt : Nat) : Statement (.loadBegin dt) :=
  fun h => of_decide_eq_true h

theorem loadData (dt : Nat) : Statement (.loadData dt) :=
  fun h => of_decide_eq_true h

theorem loadBurstEnd (dt : Nat) : Statement (.loadBurstEnd dt) :=
  fun h => of_decide_eq_true h

theorem loadEnd (dt : Nat) : Statement (.loadEnd dt) :=
  fun h => of_decide_eq_true h

theorem loadAbort (dt : Nat) : Statement (.loadAbort dt) :=
  fun h => of_decide_eq_true h

theorem tableRead (dt : Nat) : Statement (.tableRead dt) :=
  fun h => of_decide_eq_true h

theorem capabilityRead (dt : Nat) : Statement (.capabilityRead dt) :=
  fun h => of_decide_eq_true h

theorem statusRead (dt : Nat) : Statement (.statusRead dt) :=
  fun h => of_decide_eq_true h

theorem eventReadClear (dt : Nat) : Statement (.eventReadClear dt) :=
  fun h => of_decide_eq_true h

theorem eventMaskSet (dt : Nat) : Statement (.eventMaskSet dt) :=
  fun h => of_decide_eq_true h

theorem encoderReport (dt : Nat) (octets : List Byte) : Statement (.encoderReport dt octets) :=
  fun h => of_decide_eq_true (Bool.and_eq_true_iff.mp h).1

theorem demandExpiry (dt : Nat) : Statement (.demandExpiry dt) :=
  fun h => of_decide_eq_true h

theorem notBeforeTimer (dt : Nat) : Statement (.notBeforeTimer dt) :=
  fun h => of_decide_eq_true h

theorem deadlineTimer (dt : Nat) : Statement (.deadlineTimer dt) :=
  fun h => of_decide_eq_true h

theorem trackWaitTimer (dt : Nat) : Statement (.trackWaitTimer dt) :=
  fun h => of_decide_eq_true h

theorem settleDeadline (dt : Nat) : Statement (.settleDeadline dt) :=
  fun h => of_decide_eq_true h

theorem silenceTimer (dt : Nat) : Statement (.silenceTimer dt) :=
  fun h => of_decide_eq_true h

theorem acquireTimer (dt : Nat) : Statement (.acquireTimer dt) :=
  fun h => of_decide_eq_true h

theorem lostTimer (dt : Nat) : Statement (.lostTimer dt) :=
  fun h => of_decide_eq_true h

theorem restTimer (dt : Nat) : Statement (.restTimer dt) :=
  fun h => of_decide_eq_true h

theorem checkTimer (dt : Nat) : Statement (.checkTimer dt) :=
  fun h => of_decide_eq_true h

theorem decayTimer (dt : Nat) : Statement (.decayTimer dt) :=
  fun h => of_decide_eq_true h

theorem enablingTimer (dt : Nat) : Statement (.enablingTimer dt) :=
  fun h => of_decide_eq_true h

theorem motionSettleDeadline (dt : Nat) : Statement (.motionSettleDeadline dt) :=
  fun h => of_decide_eq_true h

theorem supervisionTimer (dt : Nat) : Statement (.supervisionTimer dt) :=
  fun h => of_decide_eq_true h

theorem planPass (dt : Nat) : Statement (.planPass dt) :=
  fun h => of_decide_eq_true h

theorem planCompletion (dt : Nat) : Statement (.planCompletion dt) :=
  fun h => of_decide_eq_true h

theorem mountTimeHold : Statement .mountTimeHold :=
  fun _ => Nat.zero_le _

end WellFormedDelay

end Sys2Proof.Laws
end

