-- ==== Sys2Proof/Laws/Requests.lean ====
section
/-! SUPPORT. What taking a request and building its reply can do, said once. -/

namespace Sys2Proof.Machine

/-! ## Taking the request at the head of the queue -/

theorem headRequest_of_requested {k : Nat} {f : Frame} {s : State} (h : Requested k f s) :
    headRequest (fun n => n == k) s = some f := by
  obtain ⟨h1, h2, h3⟩ := h
  simp [headRequest, h1, h2, h3]

/-- R191: what `serve` answers when a request of its kind may be taken. -/
theorem serve_of_requested {k : Nat} {f : Frame} {s : State} (ok : Nat → Bool)
    (owner : List Byte → State → Answer) (h : Requested k f s) :
    serve k ok owner s
      = buildReply f.tag s.link.outbox.length
          (if ok f.payload.length then owner f.payload s else refuse .badLength s) := by
  simp [serve, headRequest_of_requested h]

theorem Requested.advance {k : Nat} {f : Frame} {s : State} (dt : Nat) (h : Requested k f s) :
    Requested k f (Machine.advance dt s) := by
  simpa [Requested, mayTake] using h

/-! ## Building the reply -/

@[simp] theorem buildReply_units (g : Byte) (n : Nat) (a : Answer) :
    (buildReply g n a).pending = a.state.pending ∧ (buildReply g n a).seq = a.state.seq ∧
    (buildReply g n a).store = a.state.store ∧ (buildReply g n a).planner = a.state.planner ∧
    (buildReply g n a).traj = a.state.traj ∧ (buildReply g n a).guide = a.state.guide ∧
    (buildReply g n a).bus = a.state.bus ∧ (buildReply g n a).gust = a.state.gust ∧
    (buildReply g n a).mode = a.state.mode ∧ (buildReply g n a).tables = a.state.tables ∧
    (buildReply g n a).draws = a.state.draws ∧ (buildReply g n a).now = a.state.now := by
  simp [buildReply]

@[simp] theorem buildReply_events (g : Byte) (n : Nat) (a : Answer) :
    (buildReply g n a).link.events = a.state.link.events := rfl

@[simp] theorem buildReply_mask (g : Byte) (n : Nat) (a : Answer) :
    (buildReply g n a).link.mask = a.state.link.mask := rfl

/-- R192: the payload of the reply built is the one its request's taking gives. -/
theorem replyPayload_eq (f : Frame) (a : Answer) (s : State) (h : LinkGrows s a.state) (n : Nat) :
    replyPayload a = replyOctets a.code a.payload s (buildReply f.tag n a) := by
  simp [replyPayload, replyOctets, buildReply, summary, runStateCode, freeSlots, alertLine, h.frameFault]

/-- R190, R192: an owner's answer that only grows the link is answered as `Answered` says. -/
theorem buildReply_answered (f : Frame) (a : Answer) (s : State) (h : LinkGrows s a.state) :
    Answered f a.code a.payload s (buildReply f.tag s.link.outbox.length a)
      ∧ LinkKept s (buildReply f.tag s.link.outbox.length a) := by
  obtain ⟨notices, ho, hn⟩ := h.outbox
  refine ⟨⟨rfl, notices, ?_, hn⟩, h.kept⟩
  rw [← replyPayload_eq f a s h]
  simp [buildReply, ho]

/-- A request that its owner answers with `a`, which latched `ks` and left the units `us` alone. -/
theorem serve_effect {k : Nat} {f : Frame} {s : State} {ok : Nat → Bool}
    {owner : List Byte → State → Answer} {ks : List EventKind} {us : List Part} (h : Requested k f s)
    (hl : ok f.payload.length = true) (g : LinkGrows s (owner f.payload s).state)
    (l : Latches ks s (owner f.payload s).state) (e : Keeps us s (owner f.payload s).state)
    (hu : Part.link ∉ us) :
    Effect f (owner f.payload s).code (owner f.payload s).payload ks us s (serve k ok owner s) := by
  rw [serve_of_requested ok owner h, if_pos hl]
  obtain ⟨h1, h2⟩ := buildReply_answered f (owner f.payload s) s g
  refine ⟨h1, h2, by simpa [Latches] using l, by simpa using e.1, by simpa using e.2.1, ?_⟩
  intro u hm
  have := e.2.2 u hm
  cases u <;> simp_all [Part.same]

end Sys2Proof.Machine
end

