-- ==== Sys2Proof/Tests/Slice0.lean ====
section
/-! SUPPORT. Tests of well-formedness, the manual's worked values, and a witness for the hypotheses of each statement.
-/

namespace Sys2Proof.Tests

open Sys2Proof.Machine

/-! ## Well-formed commands -/

theorem test_wf_accepts_a_countable_delay : (Instr.timeSet 281474976710655).wf = true := by decide

theorem test_wf_refuses_a_delay_past_mount_time : (Instr.timeSet 281474976710656).wf = false := by decide

theorem test_wf_refuses_a_delimiter_in_a_link_frame : (Instr.mountLinkFrame 0 [1, 0x7E]).wf = false := by decide

theorem test_wf_refuses_a_delimiter_in_a_report : (Instr.encoderReport 0 [0x7E]).wf = false := by decide

theorem test_no_row_of_the_table_gives_bits : decodeTableWord 8 0 = none := by decide

/-! ## Values worked in the manual -/

/-- R58: 10° at vmax 14,400,000 and amax 7,200,000 is a trapezoid of 4,500,000 µs. -/
theorem test_slew_of_ten_degrees :
    slewOver 14400000 7200000 36000000 = ⟨36000000, 4500000, 2000000, 500000⟩ := by decide +kernel

/-- R58: 2° is a triangle of 2,000,000 µs. -/
theorem test_slew_of_two_degrees :
    slewOver 14400000 7200000 7200000 = ⟨7200000, 2000000, 1000000, 0⟩ := by decide +kernel

/-- R2: 3 is later than 65,534, and no number is later than itself. -/
theorem test_sequence_numbers_wrap : seqLater 3 65534 = true ∧ seqLater 7 7 = false := by decide

/-- R53: the first demand time at or after 10,000 µs past 3,000,002,300. -/
theorem test_slew_start_time : demandTimeFrom (3000002300 + 10000) = 3000015000 := by decide

/-- R1: a half is rounded away from zero. -/
theorem test_nearest_of_a_half : nearest 51231 2 = 25616 ∧ nearest (-51231) 2 = -25616 := by decide

/-! ## Small states -/

/-- A frame of a kind with tag 7. -/
def asks (k : Byte) (p : List Byte) : Frame := ⟨k, 7, p⟩

/-- A state with one queued frame and no frame to send. -/
def asked (k : Byte) (p : List Byte) (s : State) : State :=
  s.setLink { s.link with rx := [asks k p], outbox := [] }

theorem requested (k : Byte) (p : List Byte) (s : State) (h : s.link.resetDue = false) :
    Requested k.toNat (asks k p) (asked k p s) := by
  exact ⟨rfl, rfl, by simp [mayTake, asked, h]⟩

/-- One axis's parameters. -/
def plain : AxisParams :=
  { lower := 0, upper := 324000000, vmax := 14400000, amax := 7200000, trackRate := 90000, settleTol := 100,
    settleTimeout := 3000000, warn := 2000, l1 := 4000, l2 := 9000, runaway := 60000, park := 1, stow := 2,
    gain := 800, stepMax := 5000, totalMax := 12000 }

/-- A mode with the time set, every table VALID, every axis OK and nothing due. -/
def calm (m : Mode) : State :=
  let s := State.reset
  { s with
    link := { s.link with outbox := [] }
    mode := { s.mode with mode := m, mountTime := 100000001, timeSet := true }
    traj := { s.traj with nextExpiry := 100005000 }
    tables := { s.tables with
      params := [plain, plain, plain], mask := List.replicate 72 0, paramsStatus := .valid, maskStatus := .valid } }

/-- An entry. -/
def entryOf (id : Nat) (p : Priority) : Entry :=
  ⟨id, p, none, none, 30000000, true, true, some 1000000, .required, .nearest, 0, none⟩

/-- A segment of a target. -/
def segmentOf (id : Nat) : Segment := ⟨id, 0, 100000000, 20000000, ⟨⟨1, 0, 0⟩, ⟨1, 0, 0⟩, ⟨1, 0, 0⟩⟩⟩

/-- OBSERVING with entry 5 in a phase, entries 6 (URGENT, with a segment) and 7 queued. -/
def night (ph : Phase) : State :=
  let s := calm .observing
  { s with
    seq := { s.seq with
      active := some (entryOf 5 .normal), queue := [entryOf 6 .urgent, entryOf 7 .normal], running := true
      atr := { s.seq.atr with target := 5, phase := ph } }
    store := { s.store with held := [segmentOf 6] } }

/-- The state with every timer due. -/
def ringing (s : State) : State :=
  { s with
    seq := { s.seq with
      notBeforeTimer := some 0, deadlineTimer := some 0, trackWaitTimer := some 0, settleTimer := some 0 }
    guide := { s.guide with silenceTimer := some 0, acquireTimer := some 0, lostTimer := some 0 }
    gust := { s.gust with restTimer := some 0, checkTimer := some 0, decayTimer := some 0 }
    mode := { s.mode with enablingTimer := some 0, settleDeadline := some 0, supTimer := some 0 } }

/-- The state with the hold reasons of a list alone. -/
def holding (rs : List HoldReason) (s : State) : State :=
  s.setSeq { s.seq with holds := rs.foldl (fun h r => h.put r true) ⟨false, false, false, false, false⟩ }

/-- The state with the run stopped. -/
def stopped (s : State) : State := s.setSeq { s.seq with running := false }

/-- An axis in TRACK with a demand of 10 and a step of 1. -/
def moving (a : AxisMotion) : AxisMotion := { a with motion := .track, last := some 10, prev := some 9 }

theorem night_runs (ph : Phase) : RunLaw (night ph) := by
  refine ⟨fun _ => rfl, fun _ => rfl, fun _ => rfl⟩

theorem night_lists (ph : Phase) : ListLaw (night ph) := by
  refine ⟨?_, ?_, ?_, ?_⟩ <;> simp [listEntries, night, entryOf]

/-- The state with a plan running. -/
def planning (r : PlanRec) (s : State) : State := s.setPlanner { s.planner with running := some r }

theorem calm_runs (m : Mode) : RunLaw (calm m) := ⟨fun h => Bool.noConfusion h, fun h => Bool.noConfusion h,
  fun h => absurd rfl h⟩

/-! ## Witnesses: steps, resets and the time base -/

theorem witness_StepRunsTheFrontCommand : (State.reset.setPending [.mountTimeHold]).pending = .mountTimeHold :: [] :=
  rfl

theorem witness_EmptyQueueStepBringsADueEvent :
    (calm .ready).pending = [] ∧ dueEvents (calm .ready) = [] ∧ State.reset.pending = []
      ∧ dueEvents State.reset ≠ [] := by decide

theorem witness_AnAcceptedResetIsAnsweredAndThenActs :
    (∀ m ∈ [Mode.parked, .fault], Requested 12 (asks 12 []) (asked 12 [] (calm m))
      ∧ (asked 12 [] (calm m)).mode.mode = m ∧ (asked 12 [] (calm m)).gust.count ≠ 5)
      ∧ (let s := (calm .parked).setLink { (calm .parked).link with resetDue := true };
        s.link.resetDue = true ∧ s.link.outbox.any OutFrame.isReply = false) :=
  ⟨fun _ _ => ⟨requested 12 [] _ rfl, rfl, Nat.zero_ne_add_one 4⟩, by decide⟩

theorem witness_MountTimeIsSetInParkedAndHoldsAtItsEnd :
    (∀ m ∈ [Mode.parked, .ready],
      Requested 1 (asks 1 (List.replicate 6 255)) (asked 1 (List.replicate 6 255) (calm m))
        ∧ (asked 1 (List.replicate 6 255) (calm m)).mode.mode = m)
      ∧ (calm .ready).mode.mountTime + 281474876710654 = 281474976710655 :=
  ⟨fun _ _ => ⟨requested 1 _ _ rfl, rfl⟩, by decide⟩

/-! ## Witnesses: laws -/

theorem witness_laws_stand_in_a_night :
    TimeLaw (night .tracking) ∧ QueueLaw (night .tracking) ∧ MaskLaw (night .tracking)
      ∧ AlertLaw (night .tracking) ∧ OutcomeLaw (night .tracking) ∧ ListLaw (night .tracking)
      ∧ ModeLaw (night .tracking) ∧ TableLaw (night .tracking) ∧ GuideLaw (night .tracking) := by
  refine ⟨by unfold TimeLaw; decide, ⟨by decide, fun i => by cases i <;> decide⟩, by unfold MaskLaw; decide,
    ⟨by decide, by decide⟩, by unfold OutcomeLaw; decide, night_lists _,
    ⟨night_runs _, ⟨by decide, by decide⟩, ?_⟩, ⟨by decide, by decide, ?_⟩, by unfold GuideLaw; decide⟩
  · exact ⟨⟨by decide, fun h => absurd h (by decide)⟩, ⟨by decide, fun h => absurd h (by decide)⟩, by decide⟩
  · intro r h; cases h

theorem witness_EveryStepKeepsTheSegmentStore : StoreLaw (night .tracking) := by
  refine ⟨by decide, fun id => ?_, by decide⟩
  have h : (night .tracking).store.held = [segmentOf 6] := rfl
  rw [h]
  simp only [chainOf, List.filter]
  split <;> simp [InOrder]

/-- The step that every preservation statement speaks of. -/
theorem witness_a_step_answers : ∃ t, step (night .tracking) = .next t := ⟨_, rfl⟩

/-! ## Witnesses: the Mount Link -/

theorem witness_AGoodFrameIsReceivedAsSent :
    ([] : List Byte).length ≤ 240 ∧ (List.replicate 240 (0x7E : Byte)).length ≤ 240 :=
  ⟨Nat.zero_le _, Nat.le_of_eq List.length_replicate⟩

theorem witness_ABadFrameIsDiscardedAndCounted :
    let body := BitVec.ofNat 8 ([] : List Byte).length :: 3 :: 7 :: []
    (0 : BitVec 16) ≠ crc16 0xFFFF body ∧ 0 < (wireOf 3 7 []).length ∧ 4 < (wireOf 3 7 []).length
      ∧ 240 < (241 : Byte).toNat ∧ 0 < (body ++ checkOctets (crc16 0xFFFF body)).length
      ∧ (∀ x ∈ [(0x5C : Byte), 0x5F, 0x7D], x ≠ 0x5E ∧ x ≠ 0x5D) := by decide +kernel

theorem witness_FramesTakeAndFreeTheReceiveSlots :
    receiveFrame (wireOf 3 7 []) = some ⟨3, 7, []⟩ ∧ (calm .ready).link.rx.length < 8
      ∧ 8 ≤ ((calm .ready).setLink { (calm .ready).link with rx := List.replicate 8 (asks 3 []) }).link.rx.length
      ∧ State.reset.link.outbox = [.notice [0, 0, 0, 1, 8, 0, 1]]
      ∧ ((calm .ready).setLink { (calm .ready).link with outbox := [.reply 7 []] }).link.outbox = [.reply 7 []] := by
  decide +kernel

theorem witness_AnUnfitFrameReachesNoOwner :
    (∀ k ∈ [(0 : Byte), 29, 128, 129, 255], Requested k.toNat (asks k []) (asked k [] (calm .ready)))
      ∧ Requested 20 (asks 20 []) (asked 20 [] (calm .ready))
      ∧ Requested 3 (asks 3 [0]) (asked 3 [0] (calm .ready))
      ∧ ∀ x ∈ requestTable, x.2.2 (if x.1 = 20 then 0 else 200) = false :=
  ⟨fun k _ => requested k _ _ rfl, requested 20 _ _ rfl, requested 3 _ _ rfl, by decide⟩

theorem witness_TheEventRequestsMaskAndClearTheSet :
    Requested 28 (asks 28 [0, 0]) (asked 28 [0, 0] State.reset) ∧ Requested 27 (asks 27 []) (asked 27 [] State.reset)
      ∧ Requested 27 (asks 27 [0, 1]) (asked 27 [0, 1] State.reset) :=
  ⟨requested 28 _ _ rfl, requested 27 _ _ rfl, requested 27 _ _ rfl⟩

theorem witness_CapabilityAndStatusReadsReturnTheirRecords :
    Requested 25 (asks 25 []) (asked 25 [] State.reset) ∧ Requested 26 (asks 26 [9]) (asked 26 [9] State.reset)
      ∧ fieldNat [9] 0 1 = 9 ∧ Requested 26 (asks 26 [10]) (asked 26 [10] State.reset) ∧ fieldNat [10] 0 1 = 10
      ∧ (let s := asked 26 [1] (night .tracking);
        Requested 26 (asks 26 [1]) s ∧ fieldNat [1] 0 1 = 1 ∧ ListLaw s ∧ StoreLaw s) :=
  ⟨requested 25 _ _ rfl, requested 26 _ _ rfl, by decide, requested 26 _ _ rfl, by decide, requested 26 _ _ rfl,
    by decide, night_lists .tracking, witness_EveryStepKeepsTheSegmentStore⟩

theorem witness_RecordsAreReadAsLaidOut :
    EntryFits (entryOf 65535 .urgent) ∧ SegmentFits (segmentOf 6) ∧ Fits32 (-2147483648) ∧ ParamsFit plain
      ∧ (∀ i, Fits32 ((⟨-600000, 0, 600000⟩ : GridNode).get i))
      ∧ OutcomeFits (endRecord .done false State.reset.seq.atr 281474976710655) := by
  refine ⟨?_, ⟨by decide, by decide, by decide, by decide, ?_⟩, by unfold Fits32; decide,
    ⟨by simp [plain, Fits32], by decide, by decide⟩, ?_, ?_⟩
  · simp [EntryFits, entryOf]
  · intro i; cases i <;> simp [segmentOf, Tri.get, Fits32]
  · intro i; cases i <;> simp [Tri.get, Fits32]
  · refine ⟨by decide, by decide, by decide, by decide, ?_, ?_, ?_, by decide, by decide, ?_⟩
    iterate 3 (intro x h; cases h)
    intro i n h; cases i <;> cases h

/-! ## Witnesses: modes and supervision -/

/-- The calm state with no valid mask and a silent axis. -/
def unready (m : Mode) : State :=
  let s := calm m
  { s with
    tables := { s.tables with maskStatus := .invalid }
    bus := { s.bus with axes := { s.bus.axes with el := { s.bus.axes.el with state := .silent } } } }

/-- The calm state before its time is set. -/
def untimed (m : Mode) : State := (calm m).setMode { (calm m).mode with timeSet := false }

/-- In FAULT with a gust count of 5. -/
def gusted : State := (calm .fault).setGust { (calm .fault).gust with count := 5 }

theorem witness_ForbiddenModeRequestsChangeNothing :
    (∀ k ∈ [(3 : Byte), 4, 5, 6, 7, 8, 9, 10, 11, 12], Requested k.toNat (asks k []) (asked k [] (calm .enabling)))
      ∧ (Requested 12 (asks 12 []) (asked 12 [] gusted) ∧ gusted.mode.mode = .fault ∧ gusted.gust.count = 5)
      ∧ (∀ x ∈ [((3 : Byte), Mode.parked), (4, .ready)],
        Requested x.1.toNat (asks x.1 []) (asked x.1 [] (untimed x.2)) ∧ (untimed x.2).mode.timeSet = false
          ∧ Requested x.1.toNat (asks x.1 []) (asked x.1 [] (unready x.2)) ∧ (unready x.2).mode.timeSet = true
          ∧ (unready x.2).tables.maskStatus = .invalid)
      ∧ ∀ x ∈ [((3 : Byte), Mode.parked), (10, .stowed), (11, .fault)],
        Requested x.1.toNat (asks x.1 []) (asked x.1 [] (unready x.2)) ∧ (unready x.2).mode.mode = x.2
          ∧ ((unready x.2).bus.axes.get .el).state = .silent :=
  ⟨fun k _ => requested k [] _ rfl, ⟨requested 12 [] _ rfl, rfl, rfl⟩,
    fun x _ => ⟨requested x.1 [] _ rfl, rfl, requested x.1 [] _ rfl, rfl, rfl⟩,
    fun x _ => ⟨requested x.1 [] _ rfl, rfl, rfl⟩⟩

theorem witness_LeavingTheDisabledModes :
    ∀ x ∈ [((3 : Byte), Mode.parked), (10, .stowed), (11, .fault)],
      let s := asked x.1 [] (calm x.2)
      Requested x.1.toNat (asks x.1 []) s ∧ s.mode.mode = x.2 ∧ (∀ i, (s.bus.axes.get i).state = .ok)
        ∧ s.tables.paramsStatus = .valid ∧ s.tables.maskStatus = .valid ∧ s.tables.load = none
        ∧ s.mode.timeSet = true ∧ s.gust.level = .none ∧ s.gust.rest = .none :=
  fun x _ => ⟨requested x.1 [] _ rfl, rfl, fun i => by cases i <;> rfl, rfl, rfl, rfl, rfl, rfl, rfl⟩

/-- READY with one entry queued and a hold set of a list. -/
def queued (rs : List HoldReason) : State :=
  holding rs ((calm .ready).setSeq { (calm .ready).seq with queue := [entryOf 6 .urgent] })

theorem witness_TheRunBeginsAndIsHeldAndResumed :
    (∀ s ∈ [calm .ready, queued [], queued [.link]],
      Requested 4 (asks 4 []) (asked 4 [] s) ∧ (asked 4 [] s).mode.mode = .ready ∧ (asked 4 [] s).mode.timeSet = true
        ∧ (asked 4 [] s).tables.maskStatus = .valid ∧ (asked 4 [] s).tables.load = none)
      ∧ (calm .ready).seq.queue = [] ∧ (queued []).seq.holds.isEmpty = true ∧ (queued [.link]).seq.holds.isEmpty = false
      ∧ ∀ k ∈ [(6 : Byte), 7], ∀ rs ∈ [[], [HoldReason.operator], [.operator, .link]],
        let s := asked k [] (holding rs (night .tracking))
        Requested k.toNat (asks k []) s ∧ s.mode.mode = .observing
          ∧ (s.seq.holds.operator = false ∨ s.seq.holds.has .operator = true ∧ s.seq.running = true) := by
  refine ⟨fun s h => ⟨requested 4 [] s ?_, ?_⟩, rfl, rfl, rfl, fun k _ rs h => ⟨requested k [] _ rfl, rfl, ?_⟩⟩
  · revert s; decide
  · revert s; decide
  · change (holding rs (night .tracking)).seq.holds.operator = false
      ∨ (holding rs (night .tracking)).seq.holds.has .operator = true ∧ true = true
    revert rs; decide

/-- The state in a phase of a gust rest. -/
def atRest (p : RestPhase) (s : State) : State := s.setGust { s.gust with rest := p }

theorem witness_StopEndsTheRun :
    ∀ p ∈ [RestPhase.none, .braking, .resting, .checking],
      let s := asked 5 [] (atRest p (night .tracking))
      Requested 5 (asks 5 []) s ∧ s.mode.mode = .observing ∧ RunLaw s ∧ ListLaw s ∧ s.gust.rest = p :=
  fun _ _ => ⟨requested 5 _ _ rfl, rfl, night_runs .tracking, night_lists .tracking, rfl⟩

theorem witness_ParkAndStowBeginTheirMotions :
    ∀ k ∈ [(8 : Byte), 9],
      let s := asked k [] (night .tracking)
      Requested k.toNat (asks k []) s ∧ s.mode.mode = .observing ∧ RunLaw s ∧ ListLaw s :=
  fun k _ => ⟨requested k _ _ rfl, rfl, night_runs .tracking, night_lists .tracking⟩

/-- READY under periodic supervision, the last keepalive counted `ago` µs before. -/
def watched (ago : Nat) : State :=
  (calm .ready).setMode { (calm .ready).mode with
    supervision := .periodic, lastCounted := some (100000001 - ago), supTimer := some 0 }

theorem witness_KeepalivesAreCountedOrChangeNothing :
    (∀ rs ∈ [[], [HoldReason.link]],
      let s := holding rs ((night .tracking).setMode { (watched 500000).mode with mode := .observing })
      let q := asked 2 [1, 2] s
      Requested 2 (asks 2 [1, 2]) q ∧ fieldNat [1, 2] 0 1 = true.toNat ∧ fieldNat [1, 2] 1 1 = 2
        ∧ true ≠ q.mode.toggle ∧ q.mode.supervision = .periodic ∧ q.mode.lastCounted = some 99500001
        ∧ q.mode.period / 4 ≤ q.now - 99500001 ∧ q.seq.running = true)
      ∧ (Requested 2 (asks 2 [2, 2]) (asked 2 [2, 2] (watched 0)) ∧ fieldNat [2, 2] 0 1 = 2)
      ∧ (Requested 2 (asks 2 [0, 1]) (asked 2 [0, 1] (watched 0)) ∧ fieldNat [0, 1] 0 1 = 0
        ∧ (asked 2 [0, 1] (watched 0)).mode.toggle = false)
      ∧ (Requested 2 (asks 2 [0, 10]) (asked 2 [0, 10] (calm .ready))
        ∧ (asked 2 [0, 10] (calm .ready)).mode.supervision = .off) :=
  ⟨fun _ _ => ⟨requested 2 _ _ rfl, by decide, by decide, Bool.noConfusion, rfl, rfl,
      (show 2000000 / 4 ≤ 100000001 - 99500001 by decide), rfl⟩,
    ⟨requested 2 _ _ rfl, by decide⟩, ⟨requested 2 _ _ rfl, by decide, rfl⟩, ⟨requested 2 _ _ rfl, rfl⟩⟩

theorem witness_SupervisionFailuresHoldTheList :
    let s := asked 2 [1, 2] (watched 499999)
    s.mode.supTimer = some 0 ∧ 0 ≤ s.now ∧ s.mode.failures < 3 ∧ Requested 2 (asks 2 [1, 2]) s
      ∧ s.mode.supervision = .periodic ∧ s.mode.lastCounted = some 99500002
      ∧ s.now - 99500002 < s.mode.period / 4 :=
  ⟨rfl, by decide, by decide, requested 2 _ _ rfl, rfl, rfl, by decide⟩

theorem witness_TheFourthFailureStows :
    (let s := (night .tracking).setMode { (night .tracking).mode with failures := 3, supTimer := some 0 };
      s.mode.supTimer = some 0 ∧ 0 ≤ s.now ∧ s.mode.failures = 3 ∧ s.mode.mode = .observing ∧ RunLaw s
        ∧ ListLaw s)
      ∧ (let s := (night .tracking).setMode { (watched 499999).mode with mode := .observing, failures := 3 };
        let q := asked 2 [1, 2] s;
        Requested 2 (asks 2 [1, 2]) q ∧ fieldNat [1, 2] 0 1 = true.toNat ∧ fieldNat [1, 2] 1 1 = 2
          ∧ true ≠ q.mode.toggle ∧ q.mode.supervision = .periodic ∧ q.mode.lastCounted = some 99500002
          ∧ q.now - 99500002 < q.mode.period / 4 ∧ q.mode.failures = 3 ∧ q.mode.mode = .observing ∧ RunLaw q
          ∧ ListLaw q) :=
  ⟨⟨rfl, by decide, rfl, rfl, night_runs .tracking, night_lists .tracking⟩,
    ⟨requested 2 _ _ rfl, by decide, by decide, by decide, rfl, rfl, by decide, rfl, rfl, night_runs .tracking,
      night_lists .tracking⟩⟩

theorem witness_AnExpiredWatchEntersFault :
    ∀ m ∈ [Mode.enabling, .parking, .stowing, .ready, .observing],
      let s := ringing (calm m)
      s.mode.enablingTimer = some 0 ∧ s.mode.settleDeadline = some 0 ∧ s.gust.checkTimer = some 0 ∧ 0 ≤ s.now
        ∧ s.mode.mode = m ∧ RunLaw s :=
  fun m _ => ⟨rfl, rfl, rfl, Nat.zero_le _, rfl, calm_runs m⟩

/-! ## Witnesses: the Night List and the Sequencer -/

/-- The night with no entry ACTIVE and the given head. -/
def choosing (e : Entry) : State :=
  (night .none).setSeq { (night .none).seq with active := none, queue := [e] }

theorem witness_SelectionTakesTheHeadThroughItsSteps :
    (∀ e ∈ [entryOf 6 .normal, { entryOf 6 .normal with notAfter := some 100000001 },
        { entryOf 6 .normal with notBefore := some 100000002 }, { entryOf 9 .normal with trackWait := some 95000001 },
        entryOf 9 .normal],
      (choosing e).seq.running = true ∧ (choosing e).seq.holds.isEmpty = true ∧ (choosing e).seq.active = none
        ∧ (choosing e).seq.queue = e :: [] ∧ (choosing e).now = 100000001)
      ∧ (choosing (entryOf 6 .normal)).store.held = [segmentOf 6] := by decide

theorem witness_WaitTimersTakeSelection :
    (∀ s ∈ [ringing (choosing (entryOf 6 .normal)), ringing (calm .ready)],
      s.seq.notBeforeTimer = some 0 ∧ s.seq.deadlineTimer = some 0 ∧ s.seq.trackWaitTimer = some 0 ∧ 0 ≤ s.now
        ∧ s.seq.active = none ∧ s.seq.holds.isEmpty = true)
      ∧ (ringing (choosing (entryOf 6 .normal))).seq.running = true ∧ (ringing (calm .ready)).seq.running = false := by
  decide

theorem witness_AnUrgentHeadPreempts :
    let s := ringing (night .tracking)
    s.seq.notBeforeTimer = some 0 ∧ 0 ≤ s.now ∧ s.seq.running = true ∧ s.seq.holds.isEmpty = true
      ∧ s.seq.active = some (entryOf 5 .normal) ∧ s.seq.queue = entryOf 6 .urgent :: [entryOf 7 .normal]
      ∧ (∃ g ∈ s.store.held, g.target = 6) ∧ s.seq.atr.phase ≠ .none ∧ s.seq.outcomes.length < 31 ∧ ListLaw s
      ∧ Requeues (entryOf 5 .normal) (trackedAt s.seq.atr s.now)
      ∧ ¬ Requeues { entryOf 5 .normal with requeues := 3 } 0
      ∧ Preempts (entryOf 5 .normal) (entryOf 6 .urgent) (night .tracking)
      ∧ ¬ Preempts (entryOf 5 .normal) (entryOf 6 .urgent) (night .none) := by
  refine ⟨rfl, by decide, rfl, rfl, rfl, rfl, by decide, by decide, by decide, night_lists .tracking,
    ⟨rfl, by decide, 1000000, rfl, by decide⟩, ?_, ⟨rfl, rfl, rfl, ?_, by decide, rfl, rfl, by decide⟩, ?_⟩
  · rintro ⟨-, h, -⟩
    exact absurd h (by decide)
  · intro b h; cases h
  · rintro ⟨-, -, -, -, -, -, -, h⟩
    exact h rfl

/-- The queue of the night with no entry ACTIVE. -/
def idle : State :=
  (night .none).setSeq { (night .none).seq with active := none }

theorem witness_EntryAddPlacesTheEntry :
    ∀ q ∈ [Priority.urgent, .normal],
      ∀ n ∈ [night .tracking, stopped (night .tracking), holding [.operator] (night .tracking), idle],
      let s := asked 13 (entryOctets (entryOf 9 q)) n
      Requested 13 (asks 13 (entryOctets (entryOf 9 q))) s
        ∧ readEntry (entryOctets (entryOf 9 q)) = some (entryOf 9 q) ∧ (entryOctets (entryOf 9 q)).length = 28
        ∧ (∀ x ∈ listEntries s, x.id ≠ 9) ∧ (listEntries s).length < 96 ∧ ListLaw s
        ∧ ((s.seq.running = false ∨ s.seq.holds.isEmpty = false)
          ∨ s.seq.running = true ∧ (s.seq.active = none ∨ s.seq.active.isSome = true)) := by
  intro q _ n h
  refine ⟨requested 13 _ _ ?_, ?_, ?_, ?_, ?_, ?_, ?_⟩
  · revert n; decide
  iterate 2 (cases q <;> decide +kernel)
  · change ∀ x ∈ listEntries n, x.id ≠ 9
    revert n; decide
  · change (listEntries n).length < 96
    revert n; decide
  · simp only [List.mem_cons, List.not_mem_nil, or_false] at h
    rcases h with rfl | rfl | rfl | rfl
    iterate 3 exact night_lists .tracking
    refine ⟨?_, ?_, ?_, ?_⟩ <;> simp [listEntries, asked, idle, night, entryOf]
  · change (n.seq.running = false ∨ n.seq.holds.isEmpty = false)
      ∨ n.seq.running = true ∧ (n.seq.active = none ∨ n.seq.active.isSome = true)
    revert n; decide

/-- R14: a due not-before timer of the head stands through the withdrawal of another entry. -/
theorem test_a_due_timer_outlives_another_withdrawal :
    let s := (night .tracking).setSeq { (night .tracking).seq with notBeforeTimer := some 100000001 }
    (answerEntryWithdraw [0, 7] s).state.seq.notBeforeTimer = some 100000001 := by decide

/-- R93: the consecutive velocity count is 0 right after an activation. -/
theorem test_an_activation_clears_the_clamp_runs :
    let s := idle.setTraj { idle.traj with axes := idle.traj.axes.map (fun a => { a with clampRun := 20 }) }
    (select s).seq.active = some (entryOf 6 .urgent) ∧ (select s).traj.axes.az.clampRun = 0 := by decide

/-- Ninety-six queued entries. -/
def fullList : State :=
  (night .tracking).setSeq { (night .tracking).seq with
    active := none, queue := List.replicate 96 (entryOf 5 .normal) }

theorem witness_RefusedListRequestsChangeNothing :
    (∀ i ∈ [0, 7, 9], readEntry (entryOctets (entryOf i .normal)) = some (entryOf i .normal)
        ∧ (entryOctets (entryOf i .normal)).length = 28)
      ∧ Requested 13 (asks 13 (entryOctets (entryOf 7 .normal))) (asked 13 (entryOctets (entryOf 7 .normal)) fullList)
      ∧ (listEntries fullList).length = 96 ∧ (∃ x ∈ listEntries (night .tracking), x.id = 7)
      ∧ (let p := segmentOctets (segmentOf 99);
        Requested 17 (asks 17 p) (asked 17 p (night .tracking)) ∧ p.length = 50 ∧ readSegment p = segmentOf 99
          ∧ (∀ x ∈ listEntries (asked 17 p (night .tracking)), x.id ≠ 99)
          ∧ (asked 17 p (night .tracking)).tables.params = [plain, plain, plain])
      ∧ (Requested 18 (asks 18 (List.replicate 12 0)) (asked 18 (List.replicate 12 0) (night .tracking))
        ∧ fieldNat (List.replicate 12 0) 0 2 = 0) :=
  ⟨by decide +kernel, requested 13 _ _ rfl, by decide +kernel, by decide,
    ⟨requested 17 _ _ rfl, by decide +kernel, by decide +kernel, by decide, rfl⟩, requested 18 _ _ rfl, by decide⟩

theorem witness_EntryWithdrawRemovesTheEntry :
    (∀ p ∈ [[(0 : Byte), 5], [0, 6], [0, 99]],
      ∀ s ∈ [night .tracking, stopped (night .tracking), holding [.operator] (night .tracking)],
      Requested 14 (asks 14 p) (asked 14 p s) ∧ ListLaw (asked 14 p s)
        ∧ (night .tracking).seq.active = some (entryOf (fieldNat [0, 5] 0 2) .normal)
        ∧ (∃ x ∈ s.seq.queue, x.id = fieldNat [0, 6] 0 2)
        ∧ (∀ x ∈ listEntries s, x.id ≠ fieldNat [0, 99] 0 2)
        ∧ (s = night .tracking ∨ SelectionBlocked (asked 14 p s)))
      ∧ (∃ x ∈ idle.seq.queue, x.id = fieldNat [0, 6] 0 2) ∧ idle.seq.running = true
      ∧ idle.seq.holds.isEmpty = true ∧ idle.seq.active = none := by
  refine ⟨fun p _ s h => ?_, by decide, rfl, rfl, rfl⟩
  simp only [List.mem_cons, List.not_mem_nil, or_false] at h
  rcases h with rfl | rfl | rfl
  · exact ⟨requested 14 p _ rfl, night_lists .tracking, by decide, by decide, by decide, Or.inl rfl⟩
  · exact ⟨requested 14 p _ rfl, night_lists .tracking, by decide, by decide, by decide, Or.inr (Or.inl rfl)⟩
  · exact ⟨requested 14 p _ rfl, night_lists .tracking, by decide, by decide, by decide,
      Or.inr (Or.inr (Or.inl rfl))⟩

theorem witness_ListReadPagesTheList :
    ∀ x ∈ [((95 : Byte), 95), (96, 96)],
      Requested 15 (asks 15 [x.1]) (asked 15 [x.1] (night .tracking)) ∧ fieldNat [x.1] 0 1 = x.2
        ∧ ListLaw (asked 15 [x.1] (night .tracking)) := by
  intro x h
  refine ⟨requested 15 _ _ rfl, ?_, night_lists .tracking⟩
  revert x
  decide

/-- The night with one record to fetch. -/
def recorded : State :=
  (night .tracking).setSeq { (night .tracking).seq with
    outcomes := [endRecord .done false (night .tracking).seq.atr 0] }

theorem witness_OutcomeFetchTakesTheOldestRecord :
    Requested 16 (asks 16 []) (asked 16 [] (night .tracking)) ∧ (asked 16 [] (night .tracking)).seq.outcomes = []
      ∧ Requested 16 (asks 16 []) (asked 16 [] recorded)
      ∧ (asked 16 [] recorded).seq.outcomes = endRecord .done false (night .tracking).seq.atr 0 :: []
      ∧ (asked 16 [] recorded).seq.holds.outcomeFull = false
      ∧ (let s := asked 16 [] (holding [.outcomeFull] recorded);
        Requested 16 (asks 16 []) s ∧ s.seq.running = true
          ∧ s.seq.outcomes = endRecord .done false (night .tracking).seq.atr 0 :: []
          ∧ s.seq.holds.has .outcomeFull = true ∧ (s.seq.holds.put .outcomeFull false).isEmpty = true) :=
  ⟨requested 16 _ _ rfl, rfl, requested 16 _ _ rfl, rfl, rfl, requested 16 _ _ rfl, rfl, rfl, rfl, rfl⟩

theorem witness_ObservationTimersEndTheObservation :
    let s := ringing ((night .settling).setSeq { (night .settling).seq with running := false })
    s.seq.active = some (entryOf 5 .normal) ∧ ListLaw s ∧ s.seq.settleTimer = some 0 ∧ s.guide.acquireTimer = some 0
      ∧ s.guide.lostTimer = some 0 ∧ 0 ≤ s.now ∧ s.seq.atr.phase = .settling ∧ SelectionBlocked s :=
  ⟨rfl, night_lists .settling, rfl, rfl, rfl, by decide, rfl, Or.inl rfl⟩

theorem witness_TheSequencerCountsReports :
    (∀ ph ∈ [Phase.settling, .tracking, .slewing], (night ph).seq.active = some (entryOf 5 .normal)
      ∧ (night ph).seq.atr.phase = ph ∧ (night ph).seq.atr.settle.get .az ≤ 20)
      ∧ ∀ fe ∈ [(100 : Int), 101],
        let s := (night .settling).setSeq { (night .settling).seq with
          atr := { (night .settling).seq.atr with settle := ⟨19, 20, 20⟩ } }
        s.seq.active = some (entryOf 5 .normal) ∧ s.seq.atr.phase = .settling ∧ s.seq.atr.settle.get .az ≤ 20
          ∧ s.guide.phase ≠ .waiting ∧ (entryOf 5 .normal).guideMode = .required
          ∧ ((seqReport .az fe s).seq.atr.settle = ⟨20, 20, 20⟩ ↔ fe = 100) := by decide

/-! ## Witnesses: segments, plans and demands -/

theorem witness_AChainAnswersBeforeAndAfterRetirement :
    InOrder [segmentOf 6] ∧ (segmentOf 6).start ≤ 100000000 ∧ 98000000 < (segmentOf 6).start
      ∧ (segmentOf 6).start ≤ 98000000 + 2000000 ∧ StoreLaw (night .tracking) :=
  ⟨by simp [InOrder], by decide, by decide, by decide, witness_EveryStepKeepsTheSegmentStore⟩

theorem witness_AnAcceptedSegmentJoinsItsChain :
    (let p := segmentOctets (segmentOf 7)
      let s := asked 17 p (night .tracking)
      Requested 17 (asks 17 p) s ∧ p.length = 50 ∧ readSegment p = segmentOf 7
        ∧ s.tables.paramsStatus = .valid ∧ s.tables.params = [plain, plain, plain] ∧ 7 ∈ windowIds s
        ∧ s.now < 100000000 + 20000000 ∧ chainOf s.store.held 7 = [] ∧ s.store.held.length < 24
        ∧ s.seq.queue.head?.map Entry.id ≠ some 7)
      ∧ ∀ n ∈ [night .tracking, stopped (night .tracking), holding [.link] (night .tracking), idle],
        let p := segmentOctets (segmentOf 6)
        let s := asked 17 p n
        Requested 17 (asks 17 p) s ∧ p.length = 50 ∧ readSegment p = segmentOf 6
          ∧ s.tables.paramsStatus = .valid ∧ s.tables.params = [plain, plain, plain] ∧ 6 ∈ windowIds s
          ∧ s.now < 100000000 + 20000000 ∧ (chainOf s.store.held 6).getLast? = some (segmentOf 6)
          ∧ s.seq.queue.head?.map Entry.id = some 6 := by
  refine ⟨⟨requested 17 _ _ rfl, by decide +kernel, by decide +kernel, rfl, rfl, by decide, by decide, by decide,
    by decide, by decide⟩, fun n h => ⟨requested 17 _ n ?_, by decide +kernel, by decide +kernel, ?_⟩⟩ <;>
  revert n <;> decide

theorem witness_SlewsAndRampsTakeTheirLeastTime :
    0 < 14400000 ∧ 0 < 7200000 ∧ 28800000 * 7200000 = 14400000 * 14400000
      ∧ 28799999 * 7200000 < 14400000 * 14400000 ∧ 1 ≤ 180 := by decide

/-- A plan of the active entry with the same work on every axis. -/
def planOf (kind : PlanKind) (w : AxisWork) : PlanRec :=
  { kind := kind, target := some 5, request := 0, start := some 0, ts := 100015000, ps := ⟨0, 0, 0⟩, markHeld := true
    wraps := some ⟨0, 0⟩, passes := ⟨5, 5, 5⟩, work := ⟨w, w, w⟩, stopped := none
    tables := some ⟨⟨plain, plain, plain⟩, none⟩ }

theorem witness_TheWrapTurnFollowsThePreference :
    chooseWrap plain .nearest 0 1 0 0 = some 0 ∧ chooseWrap plain .high 0 (-1) 0 0 = none := by decide

theorem witness_APassMovesEachIteratingAxis :
    (∀ k ∈ [PlanKind.target, .park, .stow],
      (planning (planOf k (.iterating 0)) (night .planning)).planner.running = some (planOf k (.iterating 0))
        ∧ passDue (planOf k (.iterating 0)) (planning (planOf k (.iterating 0)) (night .planning)).now = true
        ∧ (planOf k (.iterating 0)).tables.isSome = true)
      ∧ (let r := { planOf .target (.iterating 0) with tables := none, passes := ⟨0, 0, 0⟩ };
        (planning r (night .planning)).planner.running = some r
          ∧ passDue r (planning r (night .planning)).now = true ∧ r.target = some 5 ∧ r.tables = none
          ∧ (answerAt (chainOf (night .planning).store.held 5) r.ts).2 = none
          ∧ (answerAt (chainOf [segmentOf 5] 5) r.ts).2 = some (segmentOf 5)
          ∧ ∃ e ∈ listEntries (night .planning), e.id = 5)
      ∧ ListLaw (night .planning) :=
  ⟨by decide, by decide, night_lists .planning⟩

theorem witness_APlansOutcomeIsTheFirstThatApplies :
    (∀ w ∈ [AxisWork.converged ⟨0, 0, 0, 0⟩, .failed .noIntercept, .failed .noTrack],
      (planOf .target w).stopped = none ∧ (planOf .target w).target = some 5 ∧ (planOf .target w).work.el = w)
      ∧ { planOf .target (.iterating 0) with stopped := some .wrap }.stopped = some .wrap := by decide

theorem witness_ACompletedPlanIsDisposedOf :
    (∀ r ∈ [planOf .park (.converged ⟨0, 0, 0, 0⟩), planOf .target (.failed .noTrack),
        { planOf .target (.failed .noTrack) with markHeld := false }],
      ∀ w ∈ [none, some (planOf .park (.iterating 0))],
      let s := (planning r (night .planning)).setPlanner { State.reset.planner with running := some r, waiting := w }
      s.planner.running = some r ∧ s.planner.waiting = w ∧ completionDue r s.now = true ∧ s.seq.active.isSome = true
        ∧ planOutcome s r = (if r.kind = .park then .success else .noTrack)
        ∧ (planOutcome s r).asEnding = (if r.kind = .park then none else some .noTrack))
      ∧ (let r := planOf .target (.failed .noTrack);
        let s := planning r (calm .ready);
        s.planner.running = some r ∧ completionDue r s.now = true ∧ s.seq.active = none
          ∧ (planOutcome s r).asEnding = some .noTrack)
      ∧ ∀ m ∈ [MotionSettle.awaiting, .off],
        ((calm .parking).setMode { (calm .parking).mode with settle := m }).mode.settle = m := by decide

theorem witness_EachMotionModeFormsItsValue :
    let a := (calm .ready).traj.axes.az
    ((moving a).last = some 10 ∧ (moving a).prev = some 9 ∧ (moving a).motion = .track
      ∧ { moving a with motion := .brake }.motion = .brake
      ∧ { moving a with motion := .hold }.profile = none
      ∧ { moving a with motion := .project, line := some ⟨10, 0, 1⟩ }.line = some ⟨10, 0, 1⟩
      ∧ { moving a with motion := .slew, profile := some ⟨0, 0, 1, 1, 0, 2, .track⟩ }.motion = .slew)
      ∧ (∀ u ∈ [0, 3, 4, 5, 8], u < 9 ∧ 9 = 2 * 4 + 1 ∧ 0 < 4)
      ∧ (List.replicate 240 (⟨0, 0, 0⟩ : GridNode)).length = 240
      ∧ ∀ x ∈ [((0 : Int), (0 : Int), 0, 0, (0 : Int), (0 : Int)), (1295999999, 324000000, 23, 8, 53999999, 36000000),
          (-1, -1, 23, 0, 53999999, 0), (54000000, 36000000, 1, 1, 0, 0)],
        x.1 % 1296000000 = 54000000 * (x.2.2.1 : Int) + x.2.2.2.2.1
          ∧ max 0 (min 324000000 x.2.1) = 36000000 * (x.2.2.2.1 : Int) + x.2.2.2.2.2
          ∧ x.2.2.1 < 24 ∧ x.2.2.2.1 < 9 ∧ 0 ≤ x.2.2.2.2.1 ∧ x.2.2.2.2.1 < 54000000 ∧ 0 ≤ x.2.2.2.2.2
          ∧ (x.2.2.2.2.2 < 36000000 ∨ x.2.2.2.1 = 8) := by
  refine ⟨by decide, by decide, List.length_replicate, by decide⟩

/-- A mode at a demand time, every axis at 10. -/
def atExpiry (m : Mode) : State :=
  let s := (calm m).setMode { (calm m).mode with mountTime := 100005000 }
  s.setTraj { s.traj with axes := s.traj.axes.map moving }

/-- The night at a demand time, every axis in TRACK at 10 with its own period closed by a report. -/
def nightExpiry (ph : Phase) (heard : Bool) : State :=
  let s := (night ph).setMode { (night ph).mode with mountTime := 100005000 }
  let s := s.setTraj { s.traj with axes := s.traj.axes.map moving }
  s.setBus { s.bus with
    lastDrive := some .enable
    axes := s.bus.axes.map (fun a => { a with heard := heard, silence := 3 }) }

theorem witness_ADemandExpirySendsOneFrame :
    (∀ m ∈ [Mode.ready, .parked], (atExpiry m).now % 5000 = 0 ∧ (atExpiry m).traj.nextExpiry ≤ (atExpiry m).now
      ∧ (atExpiry m).mode.mode = m ∧ (atExpiry m).bus.override = .none ∧ (atExpiry m).seq.active = none)
      ∧ (∀ m i, ¬ TurnsSilent (atExpiry m) i)
      ∧ (let s := (atExpiry .parking).setMode { (atExpiry .parking).mode with
            settle := .awaiting, motionStart := some 100005000 };
        s.mode.settle = .awaiting ∧ s.mode.motionStart = some 100005000 ∧ 100005000 ≤ s.now)
      ∧ (let s := (atExpiry .ready).setBus { (atExpiry .ready).bus with override := .armed };
        s.bus.override = .armed ∧ s.seq.active = none)
      ∧ (∃ i, TurnsSilent (nightExpiry .tracking false) i)
      ∧ (let s := nightExpiry .tracking true;
        StoreLaw s ∧ s.seq.active = some (entryOf 5 .normal) ∧ s.seq.atr.phase = .tracking
          ∧ s.store.lowArmed = true ∧ chainOf s.store.held 5 = []) :=
  ⟨by decide, fun m i h => by cases i <;> exact Bool.noConfusion h.1, by decide, by decide,
    ⟨.az, rfl, rfl, by decide, rfl⟩, witness_EveryStepKeepsTheSegmentStore, rfl, rfl, rfl, by decide⟩

theorem witness_an_expiry_of_an_observation :
    ∀ ph ∈ [Phase.planning, .slewing, .settling, .tracking],
      let s := nightExpiry ph true
      s.now % 5000 = 0 ∧ s.traj.nextExpiry ≤ s.now ∧ s.mode.mode = .observing
        ∧ s.seq.active = some (entryOf 5 .normal) ∧ s.seq.atr.phase = ph ∧ s.seq.atr.phase ≠ .none
        ∧ s.tables.paramsStatus = .valid ∧ s.tables.params = [plain, plain, plain] ∧ 0 ≤ plain.vmax ∧ StoreLaw s
        ∧ WatchLaw s ∧ (∀ i, ¬ TurnsSilent s i) ∧ (∃ i, Follows s.now (s.traj.axes.get i)) := by
  intro ph h
  refine ⟨?_, ?_, rfl, rfl, rfl, ?_, rfl, rfl, by decide, witness_EveryStepKeepsTheSegmentStore,
    ⟨fun h => absurd rfl h, fun _ => Or.inr rfl⟩, fun i h => ?_, .az, rfl, Or.inl rfl⟩
  iterate 3 (revert ph; decide)
  cases i <;> exact Bool.noConfusion h.2.1

theorem witness_EveryDemandLeavesWithinItsLimits :
    let s := atExpiry .ready
    (s.now % 5000 = 0 ∧ s.traj.nextExpiry ≤ s.now ∧ s.mode.mode.isEnabled = true ∧ s.tables.paramsStatus = .valid
      ∧ s.tables.params = [plain, plain, plain] ∧ s.tables.maskStatus = .valid ∧ s.tables.mask.length = 72
      ∧ (∀ v ∈ s.tables.mask, v ≤ plain.upper) ∧ plain.lower < plain.upper ∧ 0 ≤ plain.upper ∧ 0 ≤ plain.vmax
      ∧ ∀ i, (s.traj.axes.get i).last = some 10)
      ∧ (s.setTables { s.tables with maskStatus := .loading }).tables.maskStatus ≠ .valid
      ∧ (s.setTraj { s.traj with axes := s.traj.axes.set .az resetMotion }).traj.axes.az.last = none :=
  ⟨⟨by decide, by decide, by decide, rfl, rfl, rfl, by decide, by decide, by decide, by decide, by decide,
    fun i => by cases i <;> rfl⟩, by decide, rfl⟩

/-! ## Witnesses: guiding, the Axis Bus, gusts -/

/-- A correction of entry 5 with sequence 1 and errors at the two ends of the range. -/
def correction5 : List Byte := beOctets 2 5 ++ beOctets 2 1 ++ signedOctets 60000 ++ signedOctets (-60000)

theorem witness_CorrectionsMoveTheOffsetsAndSilenceLosesTheGuide :
    let s := asked 18 correction5 ((night .tracking).setGuide { (night .tracking).guide with
      phase := .waiting, mode := .required, silenceTimer := some 0 })
    Requested 18 (asks 18 correction5) s ∧ correction5.length = 12 ∧ fieldNat correction5 0 2 = 5
      ∧ fieldInt correction5 4 4 = 60000 ∧ fieldInt correction5 8 4 = -60000
      ∧ s.seq.active = some (entryOf 5 .normal) ∧ s.seq.atr.phase = .tracking ∧ s.guide.mode = .required
      ∧ s.guide.phase = .waiting ∧ s.guide.lastSeq = none ∧ s.tables.params = [plain, plain, plain]
      ∧ 0 ≤ plain.stepMax ∧ 0 ≤ plain.totalMax ∧ s.guide.silenceTimer = some 0 ∧ 0 ≤ s.now :=
  ⟨requested 18 _ _ rfl, by decide, by decide, by decide, by decide, rfl, rfl, rfl, rfl, rfl, rfl, by decide,
    by decide, rfl, by decide⟩

/-- A report of AZ that answers sequence 3. -/
def reportOf (d : DriveState) : Report := ⟨.az, 3, 12, d, .released⟩

/-- The night with sequence 3 sent to AZ, answered or not. -/
def sentThree (answered : Bool) : State :=
  setAxisRec .az { (night .tracking).bus.axes.az with history := [⟨3, some 10, answered⟩] } (night .tracking)

theorem witness_CorruptedAndStaleReportsAreOnlyCounted :
    receiveReport [] = none ∧ (List.replicate 10 (0 : Byte)).length = 10
      ∧ (0 : BitVec 16) ≠ crc16 0xFFFF (List.replicate 10 0)
      ∧ receiveReport (wireOfReport (reportOf .enabled)) = some (reportOf .enabled)
      ∧ ∀ h ∈ ((sentThree true).bus.axes.get .az).history, h.seq = 3 → h.answered = true := by decide +kernel

/-- A park or stow motion that is counted, with every counter at 19. -/
def counting (m : Mode) : State :=
  (calm m).setMode { (calm m).mode with settle := .counting, settleCount := ⟨19, 20, 20⟩ }

theorem witness_AMatchedReportSetsItsAxis :
    (let s := sentThree false;
      receiveReport (wireOfReport (reportOf .fault)) = some (reportOf .fault)
        ∧ matchEntry (s.bus.axes.get (reportOf .fault).axis).history (reportOf .fault).echo = some ⟨3, some 10, false⟩
        ∧ RunLaw s ∧ WatchLaw s ∧ s.mode.mode.isEnabled = true ∧ (s.bus.axes.get .az).state ≠ .driveFault
        ∧ (s.traj.axes.get .az).last = none)
      ∧ (∀ m ∈ [Mode.parked, .stowed, .fault, .enabling], (calm m).mode.mode = m ∧ WatchLaw (calm m))
      ∧ ∀ m ∈ [Mode.parking, .stowing], (counting m).mode.mode = m ∧ (counting m).mode.settle = .counting
        ∧ (5 : Int).natAbs ≤ ((params (counting m)).get .az).settleTol ∧ (counting m).gust.level = .none
        ∧ (counting m).gust.rest = .none ∧ (counting m).seq.running = false
        ∧ (let s := atRest .checking (counting m);
          let q := s.setGust { s.gust with level := .l1 };
          q.mode.settle = .counting ∧ q.mode.settleCount = ⟨19, 20, 20⟩ ∧ q.gust.level = .l1
            ∧ q.gust.rest = .checking) :=
  ⟨⟨by decide +kernel, by decide, night_runs .tracking, ⟨by decide, by decide⟩, rfl, by decide, rfl⟩,
    fun _ _ => ⟨rfl, fun h => absurd rfl h, fun h => h.elim (fun h => absurd rfl h) Bool.noConfusion⟩, by decide⟩

/-- The night whose axes have counted two runaway reports. -/
def running2 : State :=
  setAxisGust .az { (night .tracking).gust.axes.az with runaway := 2 } (night .tracking)

theorem witness_ReportsAreCountedForRunawayAndLevels :
    (∀ s ∈ [night .tracking, running2, calm .parked], s.tables.paramsStatus = .valid
      ∧ s.tables.params = [plain, plain, plain] ∧ s.bus.override ≠ .active ∧ s.gust.level = .none
      ∧ (s.gust.axes.get .az).warn ≤ 3 ∧ (s.gust.axes.get .az).l1 ≤ 3 ∧ (s.gust.axes.get .az).l2 ≤ 3)
      ∧ (night .tracking).mode.mode.isEnabled = true ∧ plain.runaway < (60001 : Int).natAbs
      ∧ 2 ≤ (running2.gust.axes.get .az).runaway ∧ ¬ plain.runaway < (60000 : Int).natAbs
      ∧ (night .tracking).seq.atr.phase = .tracking ∧ (calm .parked).mode.mode = .parked
      ∧ (calm .parked).seq.atr.phase = .none
      ∧ (let s := setAxisGust .az ⟨2, 2, 2, true, 999, 0, false⟩ (night .tracking);
        s.gust.axes.az.warn = 2 ∧ plain.l2 < (9001 : Int).natAbs ∧ s.gust.axes.az.warnArmed = true
          ∧ s.seq.atr.phase = .tracking)
      ∧ (let s := (night .tracking).setGust { (night .tracking).gust with
            level := .l1, axes := ⟨⟨0, 0, 0, true, 999, 0, false⟩, ⟨0, 0, 0, true, 1000, 0, false⟩,
              ⟨0, 0, 0, true, 1000, 0, false⟩⟩ };
        s.gust.level = .l1 ∧ s.gust.axes.az.release + 1 = 1000 ∧ (4000 : Int).natAbs ≤ plain.l1) := by decide

theorem witness_LevelsOneAndTwoAreEntered :
    (∀ n ∈ [0, 4],
      let s := (night .tracking).setGust { (night .tracking).gust with count := n }
      RunLaw s ∧ ListLaw s ∧ s.mode.mode = .observing ∧ s.gust.rest = .none ∧ s.gust.count = n)
      ∧ ∀ l ∈ [GustLevel.none, .l1],
        ((night .tracking).setGust { (night .tracking).gust with level := l }).gust.level = l :=
  ⟨fun _ _ => ⟨night_runs .tracking, night_lists .tracking, rfl, rfl, rfl⟩, fun _ _ => rfl⟩

theorem witness_TheGustTimersRestAndDecay :
    (∀ n ∈ [1, 5],
      let s := ringing ((calm .ready).setGust { (calm .ready).gust with count := n })
      s.gust.restTimer = some 0 ∧ s.gust.decayTimer = some 0 ∧ 0 ≤ s.now ∧ s.gust.count = n ∧ 1 ≤ n)
      ∧ ∀ marked ∈ [true, false],
        let s := (holding [.gustRest] (calm .ready)).setGust { (calm .ready).gust with
          rest := .checking, axes := (calm .ready).gust.axes.map (fun a => { a with enabled := marked }) }
        s.gust.rest = .checking ∧ s.seq.holds.has .gustRest = true
          ∧ (setAxisGust .az { s.gust.axes.az with enabled := true } s).gust.axes.el.enabled = marked := by decide

/-! ## Witnesses: loaded tables -/

/-- READY with a load of the Horizon Mask open. -/
def loading : State :=
  (calm .ready).setTables { (calm .ready).tables with
    mask := [], maskStatus := .loading, load := some (LoadRec.begun .mask) }

theorem witness_LoadBeginOpensALoad :
    (∀ p ∈ [[(2 : Byte), 0, 72], [3, 0, 72], [0, 0, 3]], Requested 19 (asks 19 p) (asked 19 p (calm .ready))
      ∧ Requested 19 (asks 19 p) (asked 19 p loading))
      ∧ fieldNat [2, 0, 72] 0 1 = 2 ∧ fieldNat [2, 0, 72] 1 2 = 72 ∧ fieldNat [3, 0, 72] 0 1 = 3
      ∧ fieldNat [0, 0, 3] 1 2 = 3 ∧ (calm .ready).tables.load = none ∧ loading.tables.load.isSome = true
      ∧ (calm .ready).mode.mode = .ready :=
  ⟨fun _ _ => ⟨requested 19 _ _ rfl, requested 19 _ _ rfl⟩, by decide, by decide, by decide, by decide, rfl, rfl, rfl⟩

/-- The load with 64 records in its burst. -/
def burstFull : State :=
  loading.setTables { loading.tables with load := some { LoadRec.begun .mask with burstCount := 64 } }

theorem witness_LoadDataAndBurstEndFillALoad :
    (∀ p ∈ [[(1 : Byte), 0, 0, 0, 9], [1]], ∀ s ∈ [loading, burstFull, calm .ready],
      Requested 20 (asks 20 p) (asked 20 p s))
      ∧ fieldNat [1, 0, 0, 0, 9] 0 1 = 1 ∧ recordSize .mask = 4
      ∧ loading.tables.load = some (LoadRec.begun .mask)
      ∧ (LoadRec.begun .mask).stored ≤ (LoadRec.begun .mask).declared ∧ (LoadRec.begun .mask).declared ≤ 240
      ∧ (LoadRec.begun .mask).burstCount + 1 ≤ 64 ∧ 64 < 64 + 1 ∧ (calm .ready).tables.load = none
      ∧ ∀ s ∈ [loading, calm .ready], Requested 21 (asks 21 [0xC3, 0xA5]) (asked 21 [0xC3, 0xA5] s) := by
  refine ⟨fun p _ s h => requested 20 p s ?_, by decide, rfl, rfl, by decide, by decide, by decide, by decide, rfl,
    fun s h => requested 21 _ s ?_⟩ <;> revert s <;> decide

theorem witness_LoadEndAndAbortFinishTheLoad :
    (∀ k ∈ [(22 : Byte), 23], ∀ s ∈ [loading, burstFull, calm .ready], Requested k.toNat (asks k []) (asked k [] s))
      ∧ loading.tables.load = some (LoadRec.begun .mask) ∧ (LoadRec.begun .mask).firstError = .none
      ∧ (LoadRec.begun .mask).burstCount = 0 ∧ (LoadRec.begun .mask).stored < (LoadRec.begun .mask).declared
      ∧ (calm .ready).tables.load = none := by
  refine ⟨fun k _ s h => requested k [] s ?_, rfl, rfl, rfl, by decide, rfl⟩
  revert s
  decide

theorem witness_TableReadReturnsTheStoredRecord :
    (∀ p ∈ [[(2 : Byte), 0, 71], [2, 0, 72], [3, 0, 0]], Requested 24 (asks 24 p) (asked 24 p (calm .ready)))
      ∧ fieldNat [2, 0, 71] 1 2 = 71 ∧ fieldNat [2, 0, 72] 1 2 = 72 ∧ fieldNat [3, 0, 0] 0 1 = 3 :=
  ⟨fun p _ => requested 24 p _ rfl, by decide, by decide, by decide⟩

end Sys2Proof.Tests
end

section
/-! Sequence numbers on the ring of 65,536 (R2). -/

namespace Sys2Proof.Proofs
open Sys2Proof.Machine

/-- The ring's subtraction is R2's difference modulo 65,536. -/
theorem toNat_sub_eq_emod (new old : BitVec 16) :
    ((new - old).toNat : Int) = ((new.toNat : Int) - (old.toNat : Int)) % 65536 := by
  have hold : old.toNat < 65536 := old.isLt
  rw [BitVec.toNat_sub]
  omega

theorem seqLater_iff (new old : BitVec 16) :
    seqLater new old = true ↔ 1 ≤ (new - old).toNat ∧ (new - old).toNat ≤ 32767 := by
  simp only [seqLater, Bool.and_eq_true, decide_eq_true_eq]

@[simp] theorem seqLater_self (n : BitVec 16) : seqLater n n = false := by
  rw [Bool.eq_false_iff, Ne, seqLater_iff, BitVec.sub_self]
  decide

/-- Settles O20: the model's test is on the ring's subtraction, which is R2's difference; a number's difference from
itself is 0, outside 1 to 32,767. -/
theorem sequenceNumbersAreLaterByHalfTheRing : Obligations.SequenceNumbersAreLaterByHalfTheRing := by
  unfold Obligations.SequenceNumbersAreLaterByHalfTheRing
  refine ⟨fun new old => ?later, fun n => ⟨seqLater_self n, ?bound⟩, ?wraps⟩
  case later =>
    rw [seqLater_iff, ← toNat_sub_eq_emod]
    omega
  case bound => exact Nat.le_of_lt_succ n.isLt
  case wraps => decide

end Sys2Proof.Proofs
end

section
/-! Least durations (R58) and braking ramps (R78). -/

namespace Sys2Proof.Proofs.SlewPlanning
open Sys2Proof.Machine

/-! ## The least whole numbers -/

theorem ceilDiv_le_iff {n d x : Nat} (hd : 0 < d) : ceilDiv n d ≤ x ↔ n ≤ d * x := by
  rw [ceilDiv, ← Nat.lt_succ_iff, Nat.div_lt_iff_lt_mul hd, Nat.succ_mul, Nat.mul_comm x d]
  omega

/-- The search keeps the root in the interval of `2 ^ k` numbers that begins at `acc`. -/
theorem isqrtBits_spec (k n acc : Nat) (hlo : acc * acc ≤ n) (hhi : n < (acc + 2 ^ k) * (acc + 2 ^ k)) :
    isqrtBits k n acc * isqrtBits k n acc ≤ n ∧ n < (isqrtBits k n acc + 1) * (isqrtBits k n acc + 1) := by
  induction k generalizing acc with
  | zero => exact ⟨hlo, by simpa [isqrtBits] using hhi⟩
  | succ k ih =>
    unfold isqrtBits
    split
    · next hbit => exact ih _ hbit (by rw [Nat.add_assoc, ← Nat.two_mul, ← Nat.pow_succ']; exact hhi)
    · next hbit => exact ih _ hlo (by omega)

theorem isqrt_spec (n : Nat) : isqrt n * isqrt n ≤ n ∧ n < (isqrt n + 1) * (isqrt n + 1) := by
  refine isqrtBits_spec _ n 0 (by simp) ?_
  have hlog : n.log2 + 1 ≤ (n.log2 / 2 + 1) + (n.log2 / 2 + 1) := by omega
  calc n < 2 ^ (n.log2 + 1) := Nat.lt_log2_self
    _ ≤ 2 ^ ((n.log2 / 2 + 1) + (n.log2 / 2 + 1)) := Nat.pow_le_pow_right (by decide) hlog
    _ = (0 + 2 ^ (n.log2 / 2 + 1)) * (0 + 2 ^ (n.log2 / 2 + 1)) := by rw [Nat.pow_add, Nat.zero_add]

theorem ceilSqrt_le_iff {n x : Nat} : ceilSqrt n ≤ x ↔ n ≤ x * x := by
  obtain ⟨hlo, hhi⟩ := isqrt_spec n
  unfold ceilSqrt
  split
  · next hsq =>
    constructor
    · intro h; rw [← hsq]; exact Nat.mul_self_le_mul_self h
    · intro h; exact Nat.mul_self_le_mul_self_iff.mp (Nat.le_trans (Nat.le_of_eq hsq) h)
  · next hsq =>
    constructor
    · intro h; exact Nat.le_trans (Nat.le_of_lt hhi) (Nat.mul_self_le_mul_self h)
    · intro h; exact Nat.mul_self_lt_mul_self_iff.mp (Nat.lt_of_lt_of_le (Nat.lt_of_le_of_ne hlo hsq) h)

/-- A duration that is least among those that satisfy `P` satisfies it itself. -/
theorem least_of_le_iff {m : Nat} {P : Nat → Prop} (h : ∀ x, m ≤ x ↔ P x) : P m ∧ ∀ x, P x → m ≤ x :=
  ⟨(h m).mp (Nat.le_refl m), fun x => (h x).mpr⟩

/-! ## The slew over a distance (R58) -/

section
variable {vmax amax : Nat} {D : Int}

theorem slewOver_of_rest (h : D.natAbs = 0) : slewOver vmax amax D = ⟨D, 0, 0, 0⟩ := if_pos h

theorem slewOver_triangle (h0 : 0 < D.natAbs) (h : D.natAbs * amax < vmax * vmax) :
    slewOver vmax amax D = ⟨D, 2 * ceilSqrt (ceilDiv (D.natAbs * 10 ^ 12) amax),
      ceilSqrt (ceilDiv (D.natAbs * 10 ^ 12) amax), 0⟩ := by
  simp only [slewOver, Nat.ne_of_gt h0, h, if_true, if_false]

theorem slewOver_trapezoid (h0 : 0 < D.natAbs) (h : vmax * vmax ≤ D.natAbs * amax) :
    slewOver vmax amax D = ⟨D, 2 * ceilDiv (vmax * 10 ^ 6) amax
        + ceilDiv ((D.natAbs * amax - vmax * vmax) * 10 ^ 6) (vmax * amax),
      ceilDiv (vmax * 10 ^ 6) amax, ceilDiv ((D.natAbs * amax - vmax * vmax) * 10 ^ 6) (vmax * amax)⟩ := by
  simp only [slewOver, Nat.ne_of_gt h0, Nat.not_lt.mpr h, if_false]

/-- By the three forms of a slew: none at all, a triangle, a trapezoid. -/
theorem slewOver_dist_time :
    (slewOver vmax amax D).dist = D
      ∧ (slewOver vmax amax D).time = 2 * (slewOver vmax amax D).ta + (slewOver vmax amax D).tc := by
  rcases Nat.eq_zero_or_pos D.natAbs with h0 | h0
  · rw [slewOver_of_rest h0]; exact ⟨rfl, rfl⟩
  rcases Nat.lt_or_ge (D.natAbs * amax) (vmax * vmax) with h | h
  · rw [slewOver_triangle h0 h]; exact ⟨rfl, (Nat.add_zero _).symm⟩
  · rw [slewOver_trapezoid h0 h]; exact ⟨rfl, rfl⟩

end

/-! ## A braking ramp (R78) -/

theorem rampStep_natAbs (step : Int) (dec : Nat) : (rampStep step dec).natAbs = step.natAbs - dec := by
  unfold rampStep
  rcases Int.lt_trichotomy step 0 with h | rfl | h
  · rw [Int.sign_eq_neg_one_of_neg h]; omega
  · simp
  · rw [Int.sign_eq_one_of_pos h]; omega

theorem rampStep_nonneg {step : Int} (dec : Nat) (h : 0 ≤ step) : 0 ≤ rampStep step dec := by
  unfold rampStep
  rcases Int.lt_or_eq_of_le h with h | rfl
  · rw [Int.sign_eq_one_of_pos h]; omega
  · simp

theorem rampStep_nonpos {step : Int} (dec : Nat) (h : step ≤ 0) : rampStep step dec ≤ 0 := by
  unfold rampStep
  rcases Int.lt_or_eq_of_le h with h | rfl
  · rw [Int.sign_eq_neg_one_of_neg h]; omega
  · simp

theorem rampRepeat_natAbs (dec n : Nat) (step : Int) :
    (Nat.repeat (fun d => rampStep d dec) n step).natAbs = step.natAbs - n * dec := by
  induction n with
  | zero => simp [Nat.repeat]
  | succ n ih => rw [Nat.repeat, rampStep_natAbs, ih, Nat.succ_mul]; omega

theorem rampRepeat_nonneg (dec n : Nat) {step : Int} (h : 0 ≤ step) :
    0 ≤ Nat.repeat (fun d => rampStep d dec) n step := by
  induction n with
  | zero => exact h
  | succ n ih => exact rampStep_nonneg dec ih

theorem rampRepeat_nonpos (dec n : Nat) {step : Int} (h : step ≤ 0) :
    Nat.repeat (fun d => rampStep d dec) n step ≤ 0 := by
  induction n with
  | zero => exact h
  | succ n ih => exact rampStep_nonpos dec ih

theorem rampRepeat_eq_zero_iff {dec : Nat} (n : Nat) (step : Int) (hdec : 0 < dec) :
    Nat.repeat (fun d => rampStep d dec) n step = 0 ↔ ceilDiv step.natAbs dec ≤ n := by
  rw [ceilDiv_le_iff hdec, ← Int.natAbs_eq_zero, rampRepeat_natAbs, Nat.sub_eq_zero_iff_le, Nat.mul_comm]

/-- Settles O43: each duration of a slew is a ceiling, which is below `x` exactly when `x` satisfies the manual's
inequality; a ramp's magnitude falls by the decrement at each expiry. -/
theorem slewsAndRampsTakeTheirLeastTime : Obligations.SlewsAndRampsTakeTheirLeastTime := by
  unfold Obligations.SlewsAndRampsTakeTheirLeastTime
  refine ⟨fun vmax amax D hv ha => ⟨slewOver_dist_time.1, slewOver_dist_time.2, ?rest, ?triangle, ?trapezoid⟩,
    fun dec n step hdec => ⟨rampRepeat_natAbs dec n step, rampRepeat_nonneg dec n, rampRepeat_nonpos dec n,
      rampRepeat_eq_zero_iff n step hdec⟩⟩
  case rest =>
    intro h
    rw [slewOver_of_rest h]
    exact ⟨rfl, rfl⟩
  case triangle =>
    intro h0 h
    rw [slewOver_triangle h0 h]
    exact ⟨rfl, least_of_le_iff (P := fun x => D.natAbs * 10 ^ 12 ≤ amax * (x * x)) fun x =>
      ceilSqrt_le_iff.trans (ceilDiv_le_iff ha)⟩
  case trapezoid =>
    intro h0 h
    rw [slewOver_trapezoid h0 h, ← and_assoc]
    exact ⟨least_of_le_iff fun x => ceilDiv_le_iff ha, least_of_le_iff fun x => ceilDiv_le_iff (Nat.mul_pos hv ha)⟩

end Sys2Proof.Proofs.SlewPlanning
end

section
/-! The wrap turns of the circular axes (R57). -/

namespace Sys2Proof.Proofs.SlewPlanning
open Sys2Proof.Machine

/-- R57: a turn whose candidate and projection lie within the limits; `step` is the projection's distance. -/
def TurnAcceptable (p : AxisParams) (x step k : Int) : Prop :=
  (k = -1 ∨ k = 0 ∨ k = 1) ∧ p.lower ≤ x + k * 1296000000 ∧ x + k * 1296000000 ≤ p.upper
    ∧ p.lower ≤ x + k * 1296000000 + step ∧ x + k * 1296000000 + step ≤ p.upper

/-- The acceptable turns in rising order, as `chooseWrap` lists them. -/
def acceptableTurns (p : AxisParams) (x step : Int) : List Int :=
  [-1, 0, 1].filter (fun k => wrapAcceptable p (x + k * Config.circle) step)

theorem mem_acceptableTurns (p : AxisParams) (x step k : Int) :
    k ∈ acceptableTurns p x step ↔ TurnAcceptable p x step k := by
  simp only [acceptableTurns, wrapAcceptable, List.mem_filter, Bool.and_eq_true, decide_eq_true_eq, and_assoc,
    List.mem_cons, List.not_mem_nil, or_false]
  rfl

theorem acceptableTurns_sorted (p : AxisParams) (x step : Int) :
    (acceptableTurns p x step).Pairwise (· < ·) :=
  List.Pairwise.filter _ (by decide)

theorem acceptableTurns_eq_nil_iff (p : AxisParams) (x step : Int) :
    acceptableTurns p x step = [] ↔ ∀ k, ¬ TurnAcceptable p x step k := by
  simp only [List.eq_nil_iff_forall_not_mem, mem_acceptableTurns]

theorem chooseWrap_eq (p : AxisParams) (pref : WrapPref) (dwell : Nat) (x v ps : Int) :
    chooseWrap p pref dwell x v ps =
      match pref with
      | .nearest => nearestTurn x ps (acceptableTurns p x (nearest (v * (dwell : Int)) 1000000000))
      | .high => (acceptableTurns p x (nearest (v * (dwell : Int)) 1000000000)).getLast?
      | .low => (acceptableTurns p x (nearest (v * (dwell : Int)) 1000000000)).head? := by
  cases pref <;> rfl

/-- The distance of a turn's candidate from the start point. -/
def turnDistance (x ps k : Int) : Nat := (x + k * 1296000000 - ps).natAbs

theorem nearestTurn_cons (x ps k : Int) (rest : List Int) :
    nearestTurn x ps (k :: rest) =
      match nearestTurn x ps rest with
      | none => some k
      | some m => if turnDistance x ps m < turnDistance x ps k then some m else some k := rfl

theorem nearestTurn_eq_none_iff (x ps : Int) (l : List Int) : nearestTurn x ps l = none ↔ l = [] := by
  cases l with
  | nil => simp [nearestTurn]
  | cons k rest =>
    rw [nearestTurn_cons]
    split
    · simp
    · split <;> simp

theorem nearestTurn_least {x ps k : Int} {l : List Int} (hl : l.Pairwise (· < ·))
    (h : nearestTurn x ps l = some k) :
    k ∈ l ∧ ∀ j ∈ l, turnDistance x ps k ≤ turnDistance x ps j
      ∧ (turnDistance x ps k = turnDistance x ps j → k ≤ j) := by
  induction l generalizing k with
  | nil => simp [nearestTurn] at h
  | cons a rest ih =>
    obtain ⟨hfirst, hrest⟩ := List.pairwise_cons.mp hl
    rw [nearestTurn_cons] at h
    split at h
    · next hnone =>
      obtain rfl : a = k := by simpa using h
      obtain rfl := (nearestTurn_eq_none_iff x ps rest).mp hnone
      simp
    · next m hm =>
      obtain ⟨hmem, hleast⟩ := ih hrest hm
      split at h
      · next hlt =>
        obtain rfl : m = k := by simpa using h
        refine ⟨List.mem_cons_of_mem a hmem, List.forall_mem_cons.mpr ⟨⟨Nat.le_of_lt hlt, fun he => ?_⟩, hleast⟩⟩
        omega
      · next hge =>
        obtain rfl : a = k := by simpa using h
        refine ⟨List.mem_cons_self, List.forall_mem_cons.mpr ⟨⟨Nat.le_refl _, fun _ => Int.le_refl a⟩, fun j hj => ?_⟩⟩
        have := (hleast j hj).1
        exact ⟨by omega, fun _ => Int.le_of_lt (hfirst j hj)⟩

theorem le_of_getLast?_of_sorted {k : Int} {l : List Int} (hl : l.Pairwise (· < ·)) (h : l.getLast? = some k) :
    k ∈ l ∧ ∀ j ∈ l, j ≤ k := by
  obtain ⟨front, rfl⟩ := List.getLast?_eq_some_iff.mp h
  refine ⟨by simp, fun j hj => ?_⟩
  rcases List.mem_append.mp hj with hj | hj
  · exact Int.le_of_lt ((List.pairwise_append.mp hl).2.2 j hj k (by simp))
  · exact Int.le_of_eq (List.mem_singleton.mp hj)

theorem le_of_head?_of_sorted {k : Int} {l : List Int} (hl : l.Pairwise (· < ·)) (h : l.head? = some k) :
    k ∈ l ∧ ∀ j ∈ l, k ≤ j := by
  obtain ⟨rest, rfl⟩ := List.head?_eq_some_iff.mp h
  exact ⟨List.mem_cons_self, List.forall_mem_cons.mpr
    ⟨Int.le_refl k, fun j hj => Int.le_of_lt (List.rel_of_pairwise_cons hl hj)⟩⟩

theorem chooseWrap_eq_none_iff (p : AxisParams) (pref : WrapPref) (dwell : Nat) (x v ps : Int) :
    chooseWrap p pref dwell x v ps = none
      ↔ ∀ k, ¬ TurnAcceptable p x (nearest (v * (dwell : Int)) 1000000000) k := by
  rw [chooseWrap_eq, ← acceptableTurns_eq_nil_iff]
  cases pref with
  | nearest => exact nearestTurn_eq_none_iff x ps _
  | high => exact List.getLast?_eq_none_iff
  | low => exact List.head?_eq_none_iff

/-- Settles O44: the acceptable turns stand in rising order, so the first is the lowest and the last the highest. -/
theorem theWrapTurnFollowsThePreference : Obligations.TheWrapTurnFollowsThePreference := by
  unfold Obligations.TheWrapTurnFollowsThePreference
  refine fun p pref dwell x v ps => ⟨chooseWrap_eq_none_iff p pref dwell x v ps, fun k h => ?_⟩
  have hsorted := acceptableTurns_sorted p x (nearest (v * (dwell : Int)) 1000000000)
  have hmem := mem_acceptableTurns p x (nearest (v * (dwell : Int)) 1000000000)
  rw [chooseWrap_eq] at h
  cases pref with
  | nearest =>
    obtain ⟨hk, hbest⟩ := nearestTurn_least hsorted h
    exact ⟨(hmem k).mp hk, fun j hj => hbest j ((hmem j).mpr hj)⟩
  | high =>
    obtain ⟨hk, hbest⟩ := le_of_getLast?_of_sorted hsorted h
    exact ⟨(hmem k).mp hk, fun j hj => hbest j ((hmem j).mpr hj)⟩
  | low =>
    obtain ⟨hk, hbest⟩ := le_of_head?_of_sorted hsorted h
    exact ⟨(hmem k).mp hk, fun j hj => hbest j ((hmem j).mpr hj)⟩

end Sys2Proof.Proofs.SlewPlanning
end

section
/-! The outcome of a plan (R60 to R62). -/

namespace Sys2Proof.Proofs.SlewPlanning
open Sys2Proof.Machine

theorem tri_any_iff {α : Type} (p : α → Bool) (x : Tri α) : x.any p = true ↔ ∃ i, p (x.get i) = true := by
  simp only [Tri.any, Bool.or_eq_true, or_assoc]
  constructor
  · rintro (h | h | h)
    · exact ⟨.az, h⟩
    · exact ⟨.el, h⟩
    · exact ⟨.rot, h⟩
  · rintro ⟨i, h⟩
    cases i with
    | az => exact .inl h
    | el => exact .inr (.inl h)
    | rot => exact .inr (.inr h)

theorem any_failedAs_iff (o : PlanOutcome) (x : Tri AxisWork) :
    x.any (AxisWork.failedAs o) = true ↔ ∃ i, x.get i = .failed o := by
  simp only [tri_any_iff, AxisWork.failedAs, decide_eq_true_eq]

theorem any_failedAs_false_iff (o : PlanOutcome) (x : Tri AxisWork) :
    x.any (AxisWork.failedAs o) = false ↔ ∀ i, x.get i ≠ .failed o := by
  rw [← Bool.not_eq_true, any_failedAs_iff, not_exists]

/-! ## The horizon check (R60) -/

theorem ite_lt_eq_max (a b : Int) : (if a < b then b else a) = max a b := by
  split <;> omega

/-- R60, R91: the lower end of the EL range is the larger of two numbers. -/
theorem elFloor_eq (p : AxisParams) (s : State) (az : Int) :
    elFloor p (validMask s) az = max p.lower
      (if s.tables.maskStatus = .valid then s.tables.mask.getD ((az % 1296000000) / 18000000).toNat 0 else 0) := by
  have hvalue : maskValue (validMask s) az
      = if s.tables.maskStatus = .valid then s.tables.mask.getD ((az % 1296000000) / 18000000).toNat 0 else 0 := by
    unfold validMask
    split <;> rfl
  rw [elFloor, hvalue]
  exact ite_lt_eq_max _ _

section
variable {r : PlanRec} {s : State} {id t : Nat} {el az : Int}

theorem horizonCheck_of_uncovered (hid : r.target = some id)
    (h : mountPosition (validGrid s) (chainOf s.store.held id) (r.wraps.getD ⟨0, 0⟩) .el (r.ts + t) = none) :
    horizonCheck s r t = .noTrack := by
  simp only [horizonCheck, hid, WrapTurns.zero, h]

theorem horizonCheck_of_covered (hid : r.target = some id)
    (hel : mountPosition (validGrid s) (chainOf s.store.held id) (r.wraps.getD ⟨0, 0⟩) .el (r.ts + t) = some el)
    (haz : mountPosition (validGrid s) (chainOf s.store.held id) (r.wraps.getD ⟨0, 0⟩) .az (r.ts + t) = some az) :
    horizonCheck s r t
      = if elFloor (params s).el (validMask s) az ≤ el ∧ el ≤ (params s).el.upper then .success else .horizon := by
  simp only [horizonCheck, hid, WrapTurns.zero, hel, haz]

/-! ## The first that applies (R61, R62) -/

theorem planOutcome_of_stopped {o : PlanOutcome} (h : r.stopped = some o) : planOutcome s r = o := by
  simp only [planOutcome, h]

theorem planOutcome_of_noTrack (hstop : r.stopped = none) (h : ∃ i, r.work.get i = .failed .noTrack) :
    planOutcome s r = .noTrack := by
  simp only [planOutcome, hstop, (any_failedAs_iff _ _).mpr h, if_true]

theorem planOutcome_of_noIntercept (hstop : r.stopped = none) (h1 : ∀ i, r.work.get i ≠ .failed .noTrack)
    (h2 : ∃ i, r.work.get i = .failed .noIntercept) : planOutcome s r = .noIntercept := by
  simp only [← any_failedAs_false_iff] at h1
  simp only [planOutcome, hstop, h1, (any_failedAs_iff _ _).mpr h2, if_true, if_false, Bool.false_eq_true]

theorem planOutcome_of_fixed (hstop : r.stopped = none) (h1 : ∀ i, r.work.get i ≠ .failed .noTrack)
    (h2 : ∀ i, r.work.get i ≠ .failed .noIntercept) (hkind : r.kind ≠ .target) : planOutcome s r = .success := by
  simp only [← any_failedAs_false_iff] at h1 h2
  simp only [planOutcome, hstop, h1, h2, if_false, Bool.false_eq_true]

theorem planOutcome_of_target {w : SlewResult} (hstop : r.stopped = none)
    (h1 : ∀ i, r.work.get i ≠ .failed .noTrack) (h2 : ∀ i, r.work.get i ≠ .failed .noIntercept)
    (hkind : r.kind = .target) (hel : r.work.el = .converged w) : planOutcome s r = horizonCheck s r w.time := by
  simp only [← any_failedAs_false_iff] at h1 h2
  simp only [planOutcome, hstop, h1, h2, hkind, hel, if_false, Bool.false_eq_true]
  rfl

end

/-- Settles O46, by the order of the tests in `planOutcome` and the two readings of the horizon check. -/
theorem aPlansOutcomeIsTheFirstThatApplies : Obligations.APlansOutcomeIsTheFirstThatApplies := by
  unfold Obligations.APlansOutcomeIsTheFirstThatApplies
  refine fun r s => ⟨fun o => planOutcome_of_stopped, planOutcome_of_noTrack, planOutcome_of_noIntercept,
    fun hstop h1 h2 => ⟨planOutcome_of_fixed hstop h1 h2, fun id w hkind hid hel => ?target⟩⟩
  case target =>
    rw [planOutcome_of_target hstop h1 h2 hkind hel]
    refine ⟨horizonCheck_of_uncovered hid, fun el az h1 h2 => ?_⟩
    rw [horizonCheck_of_covered hid h1 h2, elFloor_eq]

end Sys2Proof.Proofs.SlewPlanning
end

section
/-! A pass of a running plan (R55, R57, R59, R61, R62). -/

namespace Sys2Proof.Proofs.SlewPlanning
open Sys2Proof.Machine

@[simp] theorem tri_get_of {α : Type} (f : Axis → α) (i : Axis) : (Tri.of f).get i = f i := by
  cases i <;> rfl

/-! ## One axis (R51, R59) -/

theorem stepPasses_of_iterating {r : PlanRec} {i : Axis} {before : Nat} (h : r.work.get i = .iterating before) :
    stepPasses r i = r.passes.get i + 1 := by
  simp only [stepPasses, h, AxisWork.isIterating, if_true]

theorem stepPasses_of_done {r : PlanRec} {i : Axis} (h : ∀ before, r.work.get i ≠ .iterating before) :
    stepPasses r i = r.passes.get i := by
  cases hw : r.work.get i with
  | iterating before => exact absurd hw (h before)
  | _ => simp only [stepPasses, hw, AxisWork.isIterating, if_false, Bool.false_eq_true]

theorem stepWork_of_iterating {r : PlanRec} {i : Axis} {before : Nat} (tb : PlanTables) (chain : List Segment)
    (h : r.work.get i = .iterating before) :
    stepWork r tb chain i
      = passAxis (tb.params.get i) (r.ps.get i) (r.passes.get i + 1) before (passTarget r tb chain i before) := by
  simp only [stepWork, h]

theorem stepWork_of_done {r : PlanRec} {i : Axis} (tb : PlanTables) (chain : List Segment)
    (h : ∀ before, r.work.get i ≠ .iterating before) : stepWork r tb chain i = r.work.get i := by
  cases hw : r.work.get i with
  | iterating before => exact absurd hw (h before)
  | _ => simp only [stepWork, hw]

/-- R59: an axis passes as the manual says toward any positions that are those of its plan. -/
theorem iteratePlan_axisPassed (r : PlanRec) (tb : PlanTables) (chain : List Segment) (i : Axis)
    (toward : Nat → Option Int) (h : ∀ before, passTarget r tb chain i before = toward before) :
    AxisPassed (tb.params.get i) (r.ps.get i) toward (r.passes.get i) (r.work.get i)
      ((iteratePlan tb chain r).passes.get i) ((iteratePlan tb chain r).work.get i) := by
  simp only [AxisPassed, iteratePlan, tri_get_of]
  refine ⟨fun before hw => ⟨stepPasses_of_iterating hw, fun hnone => ?_, fun x hx => ?_⟩,
    fun hw => ⟨stepPasses_of_done hw, stepWork_of_done tb chain hw⟩⟩
  · rw [stepWork_of_iterating tb chain hw, h, hnone]; rfl
  · rw [stepWork_of_iterating tb chain hw, h, hx]; rfl

/-- R51, R61: a stopped plan counts the pass for each axis that iterates. -/
theorem stopPlan_passes (o : PlanOutcome) (r : PlanRec) (i : Axis) :
    (∀ n, r.work.get i = .iterating n → (stopPlan o r).passes.get i = r.passes.get i + 1)
      ∧ ((∀ n, r.work.get i ≠ .iterating n) → (stopPlan o r).passes.get i = r.passes.get i) := by
  simp only [stopPlan, tri_get_of]
  exact ⟨fun _ => stepPasses_of_iterating, stepPasses_of_done⟩

/-! ## The whole plan (R55) -/

/-- The segments a pass evaluates. -/
def planChain (s : State) (r : PlanRec) : List Segment := (r.target.map (chainOf s.store.held)).getD []

/-- R55, R166: the tables a pass uses: those read in pass 1, and the present ones in pass 1. -/
def planTables (s : State) (r : PlanRec) : PlanTables := r.tables.getD ⟨params s, validGrid s⟩

/-- R59, R62: a pass that chooses no turn. -/
theorem passPlan_eq_iteratePlan {s : State} {r : PlanRec}
    (h : (r.kind = .target ∧ r.target.isSome = true) → r.tables.isSome = true) :
    passPlan s r = iteratePlan (planTables s r) (planChain s r) r := by
  unfold passPlan planTables planChain
  cases htables : r.tables with
  | some tb => cases r.target <;> rfl
  | none =>
    cases htarget : r.target with
    | none => cases r.kind <;> rfl
    | some id =>
      cases hkind : r.kind with
      | target => simp [htables, htarget, hkind] at h
      | park => rfl
      | stow => rfl

/-- R166: a plan with the tables as its first pass reads them. -/
def readTables (s : State) (r : PlanRec) : PlanRec := { r with tables := some ⟨params s, validGrid s⟩ }

/-- R57, R61: pass 1 of a TARGET plan. -/
theorem passPlan_eq_firstTargetPass {s : State} {r : PlanRec} {id : Nat} (hkind : r.kind = .target)
    (htarget : r.target = some id) (htables : r.tables = none) :
    passPlan s r = firstTargetPass ⟨params s, validGrid s⟩ (chainOf s.store.held id) (findEntry s id)
      (readTables s r) := by
  simp only [passPlan, readTables, hkind, htarget, htables]

/-! ## The entry of an id (R3) -/

theorem findEntry_eq_find? (s : State) (id : Nat) :
    findEntry s id = (listEntries s).find? (fun e => e.id == id) := by
  unfold findEntry listEntries
  cases s.seq.active with
  | none => rfl
  | some e => by_cases h : e.id = id <;> simp [h]

theorem findEntry_eq_none {s : State} {id : Nat} (h : ∀ e ∈ listEntries s, e.id ≠ id) : findEntry s id = none := by
  rw [findEntry_eq_find?, List.find?_eq_none]
  simpa using h

theorem find?_id_of_nodup {l : List Entry} {e : Entry} (hl : (l.map Entry.id).Nodup) (h : e ∈ l) :
    l.find? (fun x => x.id == e.id) = some e := by
  induction l with
  | nil => exact absurd h List.not_mem_nil
  | cons a rest ih =>
    rw [List.map_cons, List.nodup_cons] at hl
    obtain ⟨hfirst, hrest⟩ := hl
    rcases List.mem_cons.mp h with rfl | h
    · exact List.find?_cons_of_pos (beq_self_eq_true e.id)
    · have hne : a.id ≠ e.id := fun hid => hfirst (hid ▸ List.mem_map_of_mem h)
      rw [List.find?_cons_of_neg (by simpa using hne), ih hrest h]

theorem findEntry_of_mem {s : State} {e : Entry} (hl : ListLaw s) (h : e ∈ listEntries s) :
    findEntry s e.id = some e := by
  obtain ⟨-, hnodup, -, -⟩ := hl
  rw [findEntry_eq_find?, find?_id_of_nodup hnodup h]

/-! ## Pass 1 of a TARGET plan (R57, R61) -/

section
variable {tb : PlanTables} {chain : List Segment} {entry : Option Entry} {r : PlanRec} {g : Segment} {e : Entry}

theorem firstTargetPass_of_noTrack (h : (answerAt chain r.ts).2 = none ∨ entry = none) :
    firstTargetPass tb chain entry r = stopPlan .noTrack r := by
  unfold firstTargetPass
  rcases h with h | rfl
  · rw [h]
  · cases (answerAt chain r.ts).2 <;> rfl

/-- R57: the turn of one circular axis in pass 1, with the segment that answers for t_s and the entry. -/
def firstTurn (tb : PlanTables) (r : PlanRec) (g : Segment) (e : Entry) (i : Axis) : Option Int :=
  chooseWrap (tb.params.get i) e.wrapPref e.dwell
    (segmentAt g i r.ts + correction tb.grid (segmentAt g .az r.ts) (segmentAt g .el r.ts) i)
    (g.poly.get i).v (r.ps.get i)

theorem firstTargetPass_of_wrap (hg : (answerAt chain r.ts).2 = some g)
    (h : firstTurn tb r g e .az = none ∨ firstTurn tb r g e .rot = none) :
    firstTargetPass tb chain (some e) r = stopPlan .wrap r := by
  simp only [firstTurn, Tri.get] at h
  simp only [firstTargetPass, hg]
  rcases h with h | h
  · rw [h]
  · rw [h]
    split
    · next hrot => exact absurd hrot (by simp)
    · rfl

theorem firstTargetPass_of_turns {az rot : Int} (hg : (answerAt chain r.ts).2 = some g)
    (haz : firstTurn tb r g e .az = some az) (hrot : firstTurn tb r g e .rot = some rot) :
    firstTargetPass tb chain (some e) r = iteratePlan tb chain { r with wraps := some ⟨az, rot⟩ } := by
  simp only [firstTurn, Tri.get] at haz hrot
  simp only [firstTargetPass, hg, haz, hrot]

end

/-! ## The command -/

/-- R55: a pass that is due replaces the running plan and nothing else. -/
theorem exec_planPass {dt : Nat} {r : PlanRec} {s : State} (hr : s.planner.running = some r)
    (hdue : passDue r (advance dt s).now = true) :
    exec (.planPass dt) s = .next ((advance dt s).setPlanner
      { s.planner with running := some (passPlan (advance dt s) r) }) := by
  have hr' : (advance dt s).planner.running = some r := by simpa using hr
  show Host.Outcome.next (runPass (advance dt s)) = _
  unfold runPass
  rw [hr']
  simp only [hdue, if_true, advance_units]

theorem setPlanner_keeps (s : State) (p : PlannerState) :
    Keeps [.link, .seq, .store, .traj, .guide, .bus, .gust, .mode, .tables] s (s.setPlanner p) := by
  simp [Keeps, Part.same]

/-- Settles O45: `iteratePlan_axisPassed` for each axis, once the pass is known to choose no turn, to stop the plan
or to choose both turns. -/
theorem aPassMovesEachIteratingAxis : Obligations.APassMovesEachIteratingAxis := by
  unfold Obligations.APassMovesEachIteratingAxis
  refine ⟨fun dt r s hr hdue hturns => ?later, fun dt id r s hr hdue hkind htarget htables hlist => ?first⟩
  case later =>
    refine ⟨_, _, exec_planPass hr hdue, rfl, setPlanner_keeps _ _, ?_⟩
    rw [passPlan_eq_iteratePlan hturns]
    refine ⟨rfl, fun i => iteratePlan_axisPassed r _ _ i _ fun before => ?_⟩
    unfold passTarget
    cases r.kind <;> rfl
  case first =>
    refine ⟨_, _, exec_planPass hr hdue, rfl, setPlanner_keeps _ _, ?_⟩
    have hstore : (advance dt s).store = s.store := by simp
    rw [passPlan_eq_firstTargetPass hkind htarget htables, hstore]
    have hentries : listEntries (advance dt s) = listEntries s := by simp [listEntries]
    have hfind : ∀ e ∈ listEntries s, findEntry (advance dt s) e.id = some e := fun e he =>
      findEntry_of_mem (by simpa [ListLaw, hentries] using hlist) (hentries ▸ he)
    refine ⟨fun h => ?_, fun g e hg he hid => ?_⟩
    · rw [firstTargetPass_of_noTrack (r := readTables (advance dt s) r)
        (h.imp_right fun h => findEntry_eq_none (hentries ▸ h))]
      exact ⟨rfl, stopPlan_passes .noTrack r⟩
    subst hid
    rw [hfind e he]
    refine ⟨fun h => ?_, fun az rot haz hrot => ?_⟩
    · rw [firstTargetPass_of_wrap (r := readTables (advance dt s) r) hg h]
      exact ⟨rfl, stopPlan_passes .wrap r⟩
    · rw [firstTargetPass_of_turns (r := readTables (advance dt s) r) hg haz hrot]
      refine ⟨rfl, fun i => iteratePlan_axisPassed { readTables (advance dt s) r with wraps := some ⟨az, rot⟩ }
        ⟨params (advance dt s), validGrid (advance dt s)⟩ (chainOf s.store.held e.id) i _ fun before => ?_⟩
      simp only [passTarget, readTables, hkind]
      rfl

end Sys2Proof.Proofs.SlewPlanning
end

section
/-! Brake instructions (R69, R77). -/

namespace Sys2Proof.Proofs.SlewPlanning
open Sys2Proof.Machine

@[simp] theorem tri_get_map {α β : Type} (f : α → β) (x : Tri α) (i : Axis) : (x.map f).get i = f (x.get i) := by
  cases i <;> rfl

theorem tri_map_map {α β γ : Type} (f : α → β) (g : β → γ) (x : Tri α) : (x.map f).map g = x.map (g ∘ f) := rfl

theorem axisBraked_braked (a : AxisMotion) : AxisBraked a a.braked := by
  obtain ⟨motion, _, _, _, _, _, _, _, _⟩ := a
  cases motion <;> rfl

/-- R69: what the end of planning makes of one axis. -/
theorem unprojected_eq (a : AxisMotion) :
    a.unprojected
      = if a.motion = .project then { a with motion := .brake, line := none, profile := none } else a := by
  obtain ⟨motion, _, _, _, _, _, _, _, _⟩ := a
  cases motion <;> rfl

/-- An axis under a brake instruction is not in PROJECT. -/
theorem unprojected_braked (a : AxisMotion) : a.braked.unprojected = a.braked := by
  obtain ⟨motion, _, _, _, _, _, _, _, _⟩ := a
  cases motion <;> rfl

theorem brakeAll_allBraked (s : State) : AllBraked s (brakeAll s) :=
  ⟨fun i => by simpa [brakeAll] using axisBraked_braked (s.traj.axes.get i), rfl⟩

theorem brakeProjecting_brakeAll (s : State) : brakeProjecting (brakeAll s) = brakeAll s := by
  have h : AxisMotion.unprojected ∘ AxisMotion.braked = AxisMotion.braked := funext unprojected_braked
  simp only [brakeProjecting, brakeAll, State.setTraj, tri_map_map, h]

/-! ## The planner left IDLE (R69) -/

theorem brakeWhenIdle_of_running {s : State} (h : s.planner.running.isSome = true) : brakeWhenIdle s = s := by
  cases hr : s.planner.running with
  | none => simp [hr] at h
  | some r => simp [brakeWhenIdle, hr]

@[simp] theorem brakeWhenIdle_units (s : State) :
    (brakeWhenIdle s).pending = s.pending ∧ (brakeWhenIdle s).link = s.link ∧ (brakeWhenIdle s).seq = s.seq
      ∧ (brakeWhenIdle s).store = s.store ∧ (brakeWhenIdle s).planner = s.planner
      ∧ (brakeWhenIdle s).guide = s.guide ∧ (brakeWhenIdle s).bus = s.bus ∧ (brakeWhenIdle s).gust = s.gust
      ∧ (brakeWhenIdle s).mode = s.mode ∧ (brakeWhenIdle s).tables = s.tables
      ∧ (brakeWhenIdle s).draws = s.draws := by
  unfold brakeWhenIdle
  split <;> simp

/-- R69: a plan that hands nothing over leaves the planner to the pending request, and where there is none the axes in
PROJECT brake. -/
theorem brakeWhenIdle_startWaiting_traj (s : State) :
    (brakeWhenIdle (startWaiting s)).traj = { s.traj with
      axes := if s.planner.waiting = none then s.traj.axes.map (fun a =>
        if a.motion = .project then { a with motion := .brake, line := none, profile := none } else a)
      else s.traj.axes } := by
  cases hw : s.planner.waiting with
  | none =>
    rw [if_pos rfl, ← funext unprojected_eq]
    simp [brakeWhenIdle, startWaiting, brakeProjecting, hw]
  | some w => simp [brakeWhenIdle, startWaiting, hw]

end Sys2Proof.Proofs.SlewPlanning
end

section
/-! What a selection can do to the planner and the Outcome Queue (R11 to R16). -/

namespace Sys2Proof.Proofs.SlewPlanning
open Sys2Proof.Machine

/-- Between `s` and `t` selection has been taken: no plan completes, records join the Outcome Queue at its tail, and an
entry that becomes ACTIVE has its plan requested. -/
structure Selecting (s t : State) : Prop where
  counts : t.planner.installed = s.planner.installed ∧ t.planner.discarded = s.planner.discarded
  outcomes : ∃ more, t.seq.outcomes = s.seq.outcomes ++ more
  activated : s.seq.active = none → t.seq.active.isSome = true → t.planner.running.isSome = true

/-- A change of the Sequencer that leaves the ACTIVE entry. -/
theorem Selecting.of_waiting {s t : State} (hp : t.planner = s.planner) (hq : t.seq.outcomes = s.seq.outcomes)
    (ha : t.seq.active = s.seq.active) : Selecting s t where
  counts := by rw [hp]; exact ⟨rfl, rfl⟩
  outcomes := ⟨[], by rw [hq, List.append_nil]⟩
  activated := fun hnone hsome => by simp [ha, hnone] at hsome

/-- A round that activates nothing, ahead of others. -/
theorem Selecting.after_waiting {s t u : State} (h : Selecting t u) (hp : t.planner = s.planner)
    (hq : ∃ more, t.seq.outcomes = s.seq.outcomes ++ more) (ha : t.seq.active = s.seq.active) :
    Selecting s u where
  counts := hp ▸ h.counts
  outcomes := by
    obtain ⟨skipped, hskipped⟩ := hq
    obtain ⟨more, hmore⟩ := h.outcomes
    exact ⟨skipped ++ more, by rw [hmore, hskipped, List.append_assoc]⟩
  activated := ha ▸ h.activated

theorem requestPlan_planner (kind : PlanKind) (target : Option Nat) (s : State) :
    (requestPlan kind target s).planner.running.isSome = true
      ∧ (requestPlan kind target s).planner.installed = s.planner.installed
      ∧ (requestPlan kind target s).planner.discarded = s.planner.discarded := by
  unfold requestPlan
  cases hr : s.planner.running <;> simp [hr]

theorem skipHead_seq (o : Ending) (e : Entry) (rest : List Entry) (s : State) :
    (skipHead o e rest s).seq
      = { s.seq with queue := rest, outcomes := s.seq.outcomes ++ [skipRecord o e.id s.now] } := by
  simp [skipHead]

theorem refreshPreemptTimer_outcomes (s : State) : (refreshPreemptTimer s).seq.outcomes = s.seq.outcomes := by
  unfold refreshPreemptTimer
  split <;> rfl

theorem activate_selecting (e : Entry) (rest : List Entry) (s : State) : Selecting s (activate e rest s) where
  counts := by simp [activate, requestPlan_planner]
  outcomes := by simp [activate, refreshPreemptTimer_outcomes]
  activated := fun _ _ => by simp [activate, requestPlan_planner]

theorem selectRounds_selecting (n : Nat) (s : State) : Selecting s (selectRounds n s) := by
  induction n generalizing s with
  | zero => exact .of_waiting rfl rfl rfl
  | succ n ih =>
    have skipped : ∀ o e rest, Selecting s (selectRounds n (skipHead o e rest s)) := fun o e rest =>
      (ih _).after_waiting (by simp) (by simp [skipHead_seq]) (by simp [skipHead_seq])
    unfold selectRounds
    split
    · exact .of_waiting rfl rfl rfl
    · next e rest _ =>
      split
      · exact .of_waiting rfl rfl rfl
      split
      · exact skipped .expired e rest
      split
      · exact .of_waiting rfl rfl rfl
      split
      · exact activate_selecting e rest s
      split
      · exact skipped .noTrack e rest
      · exact .of_waiting rfl rfl rfl

theorem select_selecting (s : State) : Selecting s (select s) := by
  unfold select
  split
  · exact (selectRounds_selecting _ _).after_waiting rfl ⟨[], (List.append_nil _).symm⟩ rfl
  · exact .of_waiting rfl rfl rfl

end Sys2Proof.Proofs.SlewPlanning
end

section
/-! The ending of the active entry's observation (R23). -/

namespace Sys2Proof.Proofs.SlewPlanning
open Sys2Proof.Machine

/-! ## Kinds latched one after another (R193) -/

theorem kindsOf_append (xs ys : List EventKind) : kindsOf (xs ++ ys) = kindsOf xs ||| kindsOf ys := by
  induction xs with
  | nil => simp [kindsOf]
  | cons k rest ih => simp only [List.cons_append, kindsOf, ih, BitVec.or_assoc]

theorem latches_trans {xs ys : List EventKind} {s t u : State} (h : Latches xs s t) (g : LinkGrows s t)
    (k : Latches ys t u) : Latches (xs ++ ys) s u := by
  obtain ⟨-, -, -, hmask, -, -⟩ := g.kept
  unfold Latches at *
  rw [k, h, hmask, kindsOf_append, BitVec.or_assoc]
  congr 1
  ext i hi
  simp only [BitVec.getElem_or, BitVec.getElem_and, Bool.and_or_distrib_left]

theorem latches_of_link_eq {s t : State} (h : t.link = s.link) : Latches [] s t := by
  simp [Latches, kindsOf, h]

theorem latch_latches (k : EventKind) (s : State) : Latches [k] s (latch k s) := by
  simp [Latches, kindsOf, latch_events]

theorem latchGuideChange_latches (before : GuidePhase) (s : State) :
    Latches (if before = s.guide.phase then [] else [.guideChanged]) s (latchGuideChange before s) := by
  unfold latchGuideChange
  by_cases h : before = s.guide.phase
  · rw [if_pos h, if_pos h.symm]
    exact latches_of_link_eq rfl
  · rw [if_neg h, if_neg (Ne.symm h)]
    exact latch_latches .guideChanged s

theorem guideStop_latches (s : State) :
    Latches (if s.guide.phase = .off then [] else [.guideChanged]) s (guideStop s) :=
  latchGuideChange_latches s.guide.phase _

theorem latchIfEmpty_latches (s : State) :
    Latches (if (listEntries s).isEmpty then [.listEmpty] else []) s (latchIfEmpty s) := by
  unfold latchIfEmpty
  split
  · exact latch_latches .listEmpty s
  · exact latches_of_link_eq rfl

/-! ## The closing of the observation (R23 steps 1 to 6) -/

theorem guideStop_guide (s : State) :
    (guideStop s).guide = { s.guide with
      phase := .off, mode := .none, azOffset := 0, elOffset := 0
      silenceTimer := none, acquireTimer := none, lostTimer := none } := by
  simp [guideStop]

/-- R64, R65: the marks of one kind of plan. -/
theorem withdrawMarks_planner (kind : PlanKind) (s : State) :
    (withdrawMarks kind s).planner = { s.planner with
      running := s.planner.running.map (unmarked kind)
      waiting := s.planner.waiting.filter (fun r => r.kind != kind) } := by
  unfold withdrawMarks
  dsimp only
  split <;> simp <;> rfl

theorem withdrawMarks_traj {kind : PlanKind} {s : State}
    (h : s.planner.waiting = none ∨ s.planner.running.isSome = true) : (withdrawMarks kind s).traj = s.traj := by
  unfold withdrawMarks
  dsimp only
  split
  · next hc =>
    obtain ⟨hwaiting, -, hidle⟩ := hc
    rcases h with h | h
    · simp [h] at hwaiting
    · simp [Option.isNone_iff_eq_none.mp hidle] at h
  · rfl

section
variable (o : Ending) (s : State)

theorem closeObservation_seq :
    (closeObservation o none s).seq = { s.seq with
      active := none
      atr := { s.seq.atr with phase := .none }
      outcomes := s.seq.outcomes ++ [endRecord o false s.seq.atr s.now]
      notBeforeTimer := none
      settleTimer := none } := by
  simp [closeObservation, closeRecord]

theorem closeObservation_guide :
    (closeObservation o none s).guide = { s.guide with
      phase := .off, mode := .none, azOffset := 0, elOffset := 0
      silenceTimer := none, acquireTimer := none, lostTimer := none } := by
  simp [closeObservation, guideStop_guide]

theorem closeObservation_planner :
    (closeObservation o none s).planner = { s.planner with
      running := s.planner.running.map (unmarked .target)
      waiting := s.planner.waiting.filter (fun r => r.kind != .target) } := by
  simp [closeObservation, withdrawMarks_planner]

theorem closeObservation_traj (h : s.planner.waiting = none ∨ s.planner.running.isSome = true) :
    (closeObservation o none s).traj = s.traj := by
  have hw := withdrawMarks_traj (kind := .target) (s := guideStop (closeRecord o none s)) (by simpa using h)
  simp [closeObservation, hw]

theorem closeObservation_latches : Latches (endKinds s) s (closeObservation o none s) := by
  have hclosed : Latches (if s.guide.phase = .off then [] else [.guideChanged]) s
      (withdrawMarks .target (guideStop (closeRecord o none s))) := by
    simpa [Latches] using guideStop_latches (closeRecord o none s)
  have hgrows : LinkGrows s (withdrawMarks .target (guideStop (closeRecord o none s))) :=
    withdrawMarks_link (guideStop_link (closeRecord_link (.refl s)))
  have hlist : listEntries (latch .targetEnded (withdrawMarks .target (guideStop (closeRecord o none s))))
      = s.seq.queue := by simp [listEntries, closeRecord]
  have hempty := latchIfEmpty_latches
    (latch .targetEnded (withdrawMarks .target (guideStop (closeRecord o none s))))
  rw [hlist] at hempty
  simpa [endKinds, closeObservation] using
    latches_trans (latches_trans hclosed hgrows (latch_latches .targetEnded _)) (latch_link hgrows) hempty

end

/-! ## The window after it (R5, R23 step 7) -/

/-- An entry that has left the list takes its segments with it. -/
theorem compareOne_of_gone {id : Nat} {s : State} (h : ∀ e ∈ listEntries s, e.id ≠ id) :
    compareOne id s = dropChain id s := by
  have hwindow : (windowIds s).contains id = false := by
    simp only [windowIds, List.contains_eq_mem, decide_eq_false_iff_not, List.mem_map, not_exists, not_and]
    refine fun e he => h e ?_
    rcases List.mem_append.mp he with he | he
    · exact List.mem_append_left _ he
    · exact List.mem_append_right _ (List.mem_of_mem_take he)
  have hlist : inList s id = false := by simpa [inList] using h
  simp only [compareOne, hwindow, hlist, if_false, Bool.false_eq_true]

theorem compareWindow_of_mem {ids : List Nat} {s : State} (h : ∀ id ∈ ids, id ∈ windowIds s) :
    compareWindow ids s = s := by
  induction ids with
  | nil => rfl
  | cons id rest ih =>
    obtain ⟨hid, hrest⟩ := List.forall_mem_cons.mp h
    have hone : compareOne id s = s := if_pos (by simpa using hid)
    rw [compareWindow, hone, ih hrest]

section
variable {e : Entry} {s : State} (ha : s.seq.active = some e) (hl : ListLaw s)
include ha hl

/-- R23: the ACTIVE entry alone leaves the window, as no QUEUED one has its id. -/
theorem compareWindow_closeObservation (o : Ending) :
    compareWindow (windowIds s) (closeObservation o none s) = dropChain e.id (closeObservation o none s) := by
  obtain ⟨-, hnodup, -, -⟩ := hl
  simp only [listEntries, ha, Option.toList_some, List.singleton_append, List.map_cons, List.nodup_cons] at hnodup
  have hentries : listEntries (closeObservation o none s) = s.seq.queue := by
    simp [listEntries, closeObservation_seq]
  have hgone : compareOne e.id (closeObservation o none s) = dropChain e.id (closeObservation o none s) :=
    compareOne_of_gone fun x hx hid => hnodup.1 (hid ▸ List.mem_map_of_mem (hentries ▸ hx))
  have hids : windowIds s = e.id :: (s.seq.queue.take Config.windowQueued).map Entry.id := by simp [windowIds, ha]
  rw [hids, compareWindow, hgone]
  exact compareWindow_of_mem (by simp [windowIds, closeObservation_seq])

theorem endObservation_of_active (o : Ending) :
    endObservation o s = brakeIfIdle (select (dropChain e.id (closeObservation o none s))) := by
  rw [endObservation, if_pos (by simp [ha]), compareWindow_closeObservation ha hl]

end

theorem closed_dropChain (o : Ending) (e : Entry) (s : State) :
    Closed o e s (dropChain e.id (closeObservation o none s)) where
  seq := by simpa using closeObservation_seq o s
  guide := by simpa using closeObservation_guide o s
  store := by simp [dropChain]
  planner := by simpa using closeObservation_planner o s
  traj := fun h => by simpa using closeObservation_traj o s h
  event := ⟨dropChain_link (closeObservation_link (.refl s)), by simpa [Latches] using closeObservation_latches o s,
    by simp [Keeps, Part.same]⟩

theorem endObservation_of_idle {s : State} (o : Ending) (h : s.seq.active = none) : endObservation o s = s :=
  if_neg (by simp [h])

/-! ## The selection after it (R23 step 8) -/

theorem selectedOrBraked_brakeIfIdle (v : State) : SelectedOrBraked v (brakeIfIdle (select v)) := by
  refine ⟨fun hsome => ?_, fun hnone => ?_⟩
  · rw [brakeIfIdle, if_pos hsome]
    refine ⟨⟨rfl, rfl, fun u _ => ?_⟩, rfl⟩
    cases u <;> rfl
  · have hidle : brakeIfIdle (select v) = brakeAll (select v) := if_neg (by simp [hnone])
    rw [hidle]
    exact ⟨⟨by simp [Keeps, Part.same], by simp⟩, brakeAll_allBraked _⟩

/-- R69 after R23: the selection either requested a plan or has been followed by the brake instruction. -/
theorem brakeWhenIdle_brakeIfIdle {v : State} (h : v.seq.active = none) :
    brakeWhenIdle (brakeIfIdle (select v)) = brakeIfIdle (select v) := by
  by_cases hsome : (select v).seq.active.isSome = true
  · rw [brakeIfIdle, if_pos hsome, brakeWhenIdle_of_running ((select_selecting v).activated h hsome)]
  · rw [brakeIfIdle, if_neg hsome, brakeWhenIdle, brakeProjecting_brakeAll, ite_self]

/-- R23, R25: the whole ending of an observation, for a cause but preemption: what it closes, the selection after it,
and what a completed plan finds unchanged. -/
theorem endObservation_ended {e : Entry} {s : State} (ha : s.seq.active = some e) (hl : ListLaw s) (o : Ending) :
    (∃ v, Closed o e s v ∧ SelectedOrBraked v (endObservation o s))
      ∧ ((endObservation o s).planner.installed = s.planner.installed
        ∧ (endObservation o s).planner.discarded = s.planner.discarded)
      ∧ (∃ more, (endObservation o s).seq.outcomes
        = s.seq.outcomes ++ endRecord o false s.seq.atr s.now :: more)
      ∧ brakeWhenIdle (endObservation o s) = endObservation o s := by
  have hclosed := closed_dropChain o e s
  obtain ⟨hcounts, ⟨more, hmore⟩, -⟩ := select_selecting (dropChain e.id (closeObservation o none s))
  rw [hclosed.planner] at hcounts
  rw [hclosed.seq] at hmore
  rw [endObservation_of_active ha hl]
  refine ⟨⟨_, hclosed, selectedOrBraked_brakeIfIdle _⟩, by simpa using hcounts, ⟨more, by simpa using hmore⟩,
    brakeWhenIdle_brakeIfIdle ?_⟩
  rw [hclosed.seq]

end Sys2Proof.Proofs.SlewPlanning
end

section
/-! The disposal of a completed plan (R63, R66 to R69, R176). -/

namespace Sys2Proof.Proofs.SlewPlanning
open Sys2Proof.Machine

/-! ## The plan end time and the settle timeout (R63, R176) -/

/-- The slew time of one axis, 0 where none is planned. -/
def slewTime : AxisWork → Nat
  | .converged w => w.time
  | _ => 0

theorem foldl_result_eq (works : List AxisWork) (m : Nat) :
    (works.filterMap AxisWork.result).foldl (fun m w => max m w.time) m
      = works.foldl (fun m w => max m (slewTime w)) m := by
  induction works generalizing m with
  | nil => rfl
  | cons w rest ih =>
    cases w with
    | converged w => exact ih _
    | _ =>
      rw [List.filterMap_cons_none rfl, List.foldl_cons, ih]
      exact congrArg (rest.foldl _) (Nat.max_zero m).symm

theorem planEnd_eq (r : PlanRec) :
    planEnd r = r.ts + max (slewTime r.work.az) (max (slewTime r.work.el) (slewTime r.work.rot)) := by
  rw [planEnd, foldl_result_eq]
  simp [Tri.list, Nat.max_assoc]

theorem plannedTimeout_eq {kind : PlanKind} (h : kind ≠ .target) (p : Tri AxisParams) :
    plannedTimeout kind p = if kind = .stow then p.el.settleTimeout
      else max p.az.settleTimeout (max p.el.settleTimeout p.rot.settleTimeout) := by
  cases kind with
  | target => exact absurd rfl h
  | park => rfl
  | stow => rfl

/-! ## The installation of a plan (R63, R67, R80) -/

theorem follow_eq (kind : PlanKind) : kind.follow = if kind = .target then .track else .hold := by
  cases kind <;> rfl

theorem params_congr {s t : State} (h : t.tables = s.tables) : params t = params s := by
  unfold params validParams
  rw [h]

section
variable (r : PlanRec) (s : State)

theorem installProfiles_converged {i : Axis} {w : SlewResult} (h : r.work.get i = .converged w) :
    (installProfiles r s).traj.axes.get i = { s.traj.axes.get i with
      profile := some ⟨r.ts, r.ps.get i, w.dist, w.ta, w.tc, w.time,
        if r.kind = .target then .track else .hold⟩ } := by
  simp [installProfiles, profileOf, h, AxisWork.result, follow_eq]

theorem installProfiles_other {i : Axis} (h : ∀ w, r.work.get i ≠ .converged w) :
    (installProfiles r s).traj.axes.get i = s.traj.axes.get i := by
  have hnone : profileOf r i = none := by
    cases hw : r.work.get i with
    | converged w => exact absurd hw (h w)
    | _ => simp [profileOf, hw, AxisWork.result]
  simp [installProfiles, hnone]

theorem installProfiles_wraps_target {w : WrapTurns} (hkind : r.kind = .target) (hw : r.wraps = some w) :
    (installProfiles r s).traj.wraps = w := by
  simp [installProfiles, hkind, hw]

theorem installProfiles_wraps_motion (hkind : r.kind ≠ .target) :
    (installProfiles r s).traj.wraps = s.traj.wraps := by
  cases hk : r.kind with
  | target => exact absurd hk hkind
  | _ => simp [installProfiles, hk]

theorem tellInstalled_target (hkind : r.kind = .target) :
    tellInstalled r s
      = s.setSeq { s.seq with atr := { s.seq.atr with slewStart := some r.ts, wraps := r.wraps } } := by
  simp only [tellInstalled, hkind]

theorem tellInstalled_motion (hkind : r.kind ≠ .target) :
    tellInstalled r s = if s.mode.settle = .awaiting then
      s.setMode { s.mode with
        settleDeadline := some (planEnd r + plannedTimeout r.kind (params s))
        motionStart := some r.ts }
      else s := by
  cases hk : r.kind with
  | target => exact absurd hk hkind
  | _ => simp only [tellInstalled, hk]

theorem installPlan_traj : (installPlan r s).traj = (installProfiles r s).traj := by
  simp [installPlan, installProfiles]

theorem installPlan_planner :
    (installPlan r s).planner = { s.planner with installed := bump s.planner.installed } := by
  simp [installPlan]

/-- R18: the Sequencer is told of a TARGET plan. -/
theorem installPlan_target (hkind : r.kind = .target) :
    (installPlan r s).mode = s.mode
      ∧ (installPlan r s).seq
        = { s.seq with atr := { s.seq.atr with slewStart := some r.ts, wraps := r.wraps } } := by
  rw [installPlan, tellInstalled_target _ _ hkind]
  simp

/-- R176: the Mode Controller, when it awaits a motion, is told of a PARK or STOW plan. -/
theorem installPlan_motion (hkind : r.kind ≠ .target) :
    (installPlan r s).seq = s.seq
      ∧ (installPlan r s).mode = if s.mode.settle = .awaiting then
          { s.mode with
            settleDeadline := some (planEnd r + plannedTimeout r.kind (params s))
            motionStart := some r.ts }
        else s.mode := by
  rw [installPlan, tellInstalled_motion _ _ hkind, params_congr (s := s) (by simp)]
  split
  · next h => simp [show s.mode.settle = .awaiting by simpa using h]
  · next h => simp [show s.mode.settle ≠ .awaiting by simpa using h]

theorem installPlan_now : (installPlan r s).now = s.now := by
  by_cases hkind : r.kind = .target
  · simp [State.now, installPlan_target r s hkind]
  · rw [State.now, (installPlan_motion r s hkind).2]
    split <;> rfl

end

/-! ## The three ways a plan is disposed of (R66 to R68) -/

/-- The planner once the completed plan has left the running slot. -/
theorem startWaiting_planner (s : State) :
    (startWaiting s).planner = { s.planner with
      running := s.planner.waiting.map (fun w => { w with start := some s.now }), waiting := none } := rfl

section
variable {r : PlanRec} {s : State}

theorem exec_planCompletion {dt : Nat} (hr : s.planner.running = some r)
    (hdue : completionDue r (advance dt s).now = true) :
    exec (.planCompletion dt) s = .next (disposePlan r (advance dt s)) := by
  have hr' : (advance dt s).planner.running = some r := by simpa using hr
  show Host.Outcome.next (completePlan (advance dt s)) = _
  unfold completePlan
  rw [hr']
  simp only [hdue, if_true]

theorem disposePlan_discarded (h : r.markHeld = false) :
    disposePlan r s = brakeWhenIdle (startWaiting (discardPlan s)) := by
  simp only [disposePlan, h, if_false, Bool.false_eq_true]

theorem disposePlan_installed (h : r.markHeld = true) (ho : planOutcome s r = .success) :
    disposePlan r s = startWaiting (installPlan r s) := by
  simp only [disposePlan, h, ho, PlanOutcome.asEnding, if_true]

theorem disposePlan_failed {o : Ending} (h : r.markHeld = true) (ho : (planOutcome s r).asEnding = some o) :
    disposePlan r s = brakeWhenIdle (endObservation o (startWaiting s)) := by
  simp only [disposePlan, h, ho, if_true]

end

/-- Settles O47, one case for each of the three ways of `disposePlan`. -/
theorem aCompletedPlanIsDisposedOf : Obligations.ACompletedPlanIsDisposedOf := by
  unfold Obligations.ACompletedPlanIsDisposedOf
  refine fun dt r s hr hdue => ⟨fun hmark => ?discarded, fun hmark hout => ?installed,
    fun o hmark hout => ⟨fun e ha hl => ?ended, fun ha => ?unobserved⟩⟩
  case discarded =>
    refine ⟨_, (exec_planCompletion hr hdue).trans (by rw [disposePlan_discarded hmark]), ?_, ?_, ?_⟩
    · simp [Keeps, Part.same]
    · simp [startWaiting_planner, discardPlan]
    · rw [brakeWhenIdle_startWaiting_traj]
      simp [discardPlan]
  case installed =>
    refine ⟨_, (exec_planCompletion hr hdue).trans (by rw [disposePlan_installed hmark hout]), ?_, ?_, ?_, ?_, ?_, ?_,
      ?_, ?_, ?_⟩
    · simp [Keeps, Part.same]
    · simp [startWaiting_planner, installPlan_planner, installPlan_now]
    · simp [installPlan_traj, installProfiles]
    · intro i w hw
      simpa [installPlan_traj] using installProfiles_converged r (advance dt s) hw
    · intro i hw
      simpa [installPlan_traj] using installProfiles_other r (advance dt s) hw
    · intro w hkind hw
      simpa [installPlan_traj] using installProfiles_wraps_target r (advance dt s) hkind hw
    · intro hkind
      simpa [installPlan_traj] using installProfiles_wraps_motion r (advance dt s) hkind
    · intro hkind
      simpa using installPlan_target r (advance dt s) hkind
    · intro hkind
      obtain ⟨hseq, hmode⟩ := installPlan_motion r (advance dt s) hkind
      rw [planEnd_eq, plannedTimeout_eq hkind] at hmode
      refine ⟨by simpa using hseq, fun ha => ?_, fun ha => ?_⟩
      · exact hmode.trans (if_pos ha)
      · exact hmode.trans (if_neg ha)
  case ended =>
    obtain ⟨⟨v, hclosed, hselect⟩, ⟨hinstalled, hdiscarded⟩, ⟨more, hmore⟩, hbrake⟩ :=
      endObservation_ended (s := startWaiting (advance dt s)) (e := e) (by simpa using ha)
        (by simpa [ListLaw, listEntries] using hl) o
    refine ⟨_, v, more, (exec_planCompletion hr hdue).trans (by rw [disposePlan_failed hmark hout, hbrake]),
      endObservation_link (startWaiting_link (.refl _)), by simp [Keeps, Part.same], hclosed, hselect, ?_, ?_, ?_⟩
    · simpa [startWaiting_planner] using hinstalled
    · simpa [startWaiting_planner] using hdiscarded
    · simpa using hmore
  case unobserved =>
    refine ⟨_, (exec_planCompletion hr hdue).trans (by
      rw [disposePlan_failed hmark hout, endObservation_of_idle o (by simpa using ha)]), ?_, ?_, ?_⟩
    · simp [Keeps, Part.same]
    · simp [startWaiting_planner]
    · rw [brakeWhenIdle_startWaiting_traj]
      simp

end Sys2Proof.Proofs.SlewPlanning
end

section
/-! The whole numbers of the demand computation: Nearest (R1), profiles (R81) and the grid's correction (R85, R86). -/

namespace Sys2Proof.Proofs.DemandComputation
open Sys2Proof.Machine

/-! ## Nearest (R1) -/

/-- R1: half the denominator added before the division rounds to the nearest multiple, a half upwards. -/
theorem roundedQuotient_bounds (m : Nat) {d : Nat} (hd : 0 < d) :
    2 * ((2 * m + d) / (2 * d) * d) ≤ 2 * m + d ∧ 2 * m < 2 * ((2 * m + d) / (2 * d) * d) + d := by
  have hlo := Nat.div_mul_le_self (2 * m + d) (2 * d)
  have hhi := Nat.lt_div_mul_add (a := 2 * m + d) (b := 2 * d) (by omega)
  rw [Nat.mul_left_comm] at hlo hhi
  omega

theorem isNearest_nearest (n : Int) {d : Nat} (hd : 0 < d) : IsNearest (nearest n d) n d := by
  obtain ⟨hlo, hhi⟩ := roundedQuotient_bounds n.natAbs hd
  unfold IsNearest nearest
  generalize (2 * n.natAbs + d) / (2 * d) = q at *
  split
  · rw [← Int.natCast_mul]
    omega
  · rw [Int.neg_mul, ← Int.natCast_mul]
    omega

/-! ## The value of a profile (R81) -/

/-- R81: the denominator of the share of its distance that a profile has covered. -/
def profileDen (p : Profile) : Nat := 2 * p.ta * (p.ta + p.tc)

/-- R81: the numerator `u` µs after t_s: the ramp up, the cruise, the ramp down. -/
def profileNum (p : Profile) (u : Nat) : Nat :=
  if u ≤ p.ta then u * u else if u ≤ p.ta + p.tc then p.ta * (2 * u - p.ta)
  else profileDen p - (p.time - u) * (p.time - u)

/-- The share that a profile has still to cover on the ramp down is no more than the whole. -/
theorem sq_remaining_le_profileDen {p : Profile} {u : Nat} (htime : p.time = 2 * p.ta + p.tc)
    (hu : p.ta + p.tc < u) : (p.time - u) * (p.time - u) ≤ profileDen p := by
  have hrest : p.time - u ≤ p.ta := by omega
  calc (p.time - u) * (p.time - u) ≤ p.ta * p.ta := Nat.mul_le_mul hrest hrest
    _ ≤ 2 * p.ta * (p.ta + p.tc) := Nat.mul_le_mul (by omega) (by omega)

theorem profileAt_eq {p : Profile} {u : Nat} (hu : u < p.time) (htime : p.time = 2 * p.ta + p.tc) :
    profileAt p u = p.ps + nearest (p.dist * (profileNum p u : Int)) (profileDen p) := by
  have hden : (2 * (p.ta : Int) * ((p.ta : Int) + (p.tc : Int))).natAbs = profileDen p :=
    Int.natAbs_natCast (profileDen p)
  unfold profileAt profileNum
  dsimp only
  rw [hden]
  split
  · rw [Int.natCast_mul]
  split
  · rw [Int.natCast_mul, Int.natCast_sub (by omega), Int.natCast_mul]
    rfl
  · next hcruise =>
    rw [Int.natCast_sub (sq_remaining_le_profileDen htime (by omega)), Int.natCast_mul,
      Int.natCast_sub (Nat.le_of_lt hu)]
    rfl

theorem profileAt_isNearest {p : Profile} {u : Nat} (hu : u < p.time) (htime : p.time = 2 * p.ta + p.tc)
    (hta : 0 < p.ta) : IsNearest (profileAt p u - p.ps) (p.dist * (profileNum p u : Int)) (profileDen p) := by
  have hshare : profileAt p u - p.ps = nearest (p.dist * (profileNum p u : Int)) (profileDen p) := by
    rw [profileAt_eq hu htime]
    omega
  rw [hshare]
  exact isNearest_nearest _ (Nat.mul_pos (by omega) (by omega))

/-! ## The grid's correction (R85, R86) -/

theorem clampInt_eq {lo hi : Int} (v : Int) (h : lo ≤ hi) : clampInt lo hi v = max lo (min hi v) := by
  unfold clampInt
  split
  · omega
  split <;> omega

/-- R85, R86: the numerator of the correction between the nodes of column `c` and the next and of row `r` and the
next, at the offsets `fa` and `fe` from the first node. -/
def bilinearNum (nodes : List GridNode) (i : Axis) (c r : Nat) (fa fe : Int) : Int :=
  let east := if c = 23 then 0 else c + 1
  (54000000 - fa) * (36000000 - fe) * nodeAt nodes c r i + fa * (36000000 - fe) * nodeAt nodes east r i
    + (54000000 - fa) * fe * nodeAt nodes c (r + 1) i + fa * fe * nodeAt nodes east (r + 1) i

theorem gridCorrection_eq (nodes : List GridNode) {az el : Int} (i : Axis) {c r : Nat} {fa fe : Int} (hr : r < 9)
    (haz : az % 1296000000 = 54000000 * (c : Int) + fa) (hfa : 0 ≤ fa) (hfa' : fa < 54000000)
    (hel : max 0 (min 324000000 el) = 36000000 * (r : Int) + fe) (hfe : 0 ≤ fe) (hfe' : fe < 36000000 ∨ r = 8) :
    gridCorrection nodes az el i = nearest (bilinearNum nodes i c r fa fe) (54000000 * 36000000) := by
  have hcol : (az % 1296000000 / 54000000).toNat = c := by omega
  have hrow : min (max 0 (min 324000000 el) / 36000000).toNat 8 = r := by omega
  have hfaEq : az % 1296000000 - 54000000 * (c : Int) = fa := by omega
  have hfeEq : max 0 (min 324000000 el) - 36000000 * (r : Int) = fe := by omega
  simp only [gridCorrection, bilinearNum, Config.circle, Config.zenith, Config.gridCol, Config.gridRow,
    clampInt_eq el (show (0 : Int) ≤ 324000000 by decide), hcol, hrow, hfaEq, hfeEq]
  rfl

end Sys2Proof.Proofs.DemandComputation
end

section
/-! The value that each motion mode forms (R76 to R88). -/

namespace Sys2Proof.Proofs.DemandComputation
open Sys2Proof.Machine

/-! ## The evaluation chosen by the motion mode -/

section
variable {inp : Inputs} {i : Axis} {last : Int} {a : AxisMotion} {p : Profile}

theorem form_of_last (h : a.last = some last) : form inp i a = formSet inp i last a := by
  simp only [form, h]

theorem startsNow_eq_false (h : ∀ p, a.profile = some p → p.ts ≠ inp.t) : startsNow inp a = false := by
  unfold startsNow
  cases hp : a.profile with
  | none => rfl
  | some p => simpa using h p hp

theorem startsNow_of_due (hp : a.profile = some p) (h : p.ts = inp.t) : startsNow inp a = true := by
  simp [startsNow, hp, h]

theorem formSet_hold (hm : a.motion = .hold) (h : startsNow inp a = false) :
    formSet inp i last a = formHold last a := by
  unfold formSet
  rw [hm]
  cases a.profile with
  | none => rfl
  | some p => simp only [h, if_false, Bool.false_eq_true]

theorem formSet_project (hm : a.motion = .project) (h : startsNow inp a = false) :
    formSet inp i last a = formProject inp last a := by
  unfold formSet
  rw [hm]
  cases a.profile with
  | none => rfl
  | some p => simp only [h, if_false, Bool.false_eq_true]

theorem formSet_brake (hm : a.motion = .brake) : formSet inp i last a = formBrake inp i last a.step := by
  simp only [formSet, hm]

theorem formSet_following (hm : a.motion = .track ∨ a.motion = .coast) :
    formSet inp i last a = formTrack inp i last a.step := by
  rcases hm with hm | hm <;> simp only [formSet, hm]

/-- R80: a profile in SLEW, or one that starts at this expiry, gives the axis its motion. -/
theorem formSet_slew (hp : a.profile = some p)
    (hm : a.motion = .slew ∨ p.ts = inp.t ∧ (a.motion = .hold ∨ a.motion = .project)) :
    formSet inp i last a = formSlew inp i p last a.step := by
  rcases hm with hm | ⟨hts, hm | hm⟩
  · simp only [formSet, hm, hp]
  · simp only [formSet, hm, hp, startsNow_of_due hp hts, if_true]
  · simp only [formSet, hm, hp, startsNow_of_due hp hts, if_true]

/-! ## A profile running and over (R81, R82) -/

theorem formSlew_of_running (step : Int) (h : inp.t < p.ts + p.time) :
    formSlew inp i p last step = ⟨.slew, profileAt p (inp.t - p.ts), some p, false, false⟩ :=
  if_neg (Nat.not_le.mpr h)

theorem formSlew_of_over (step : Int) (h : p.ts + p.time ≤ inp.t) :
    formSlew inp i p last step = formFollow inp i p last step :=
  if_pos h

end

/-! ## Braking (R78) -/

/-- R78: the step of a braking axis one period later. -/
def brakedStep (p : AxisParams) (step : Int) : Int :=
  let dec := max 1 (p.amax / 40000)
  if step.natAbs ≤ dec.toNat then 0 else if 0 < step then step - dec else step + dec

theorem rampStep_brakeDecrement (p : AxisParams) (step : Int) :
    rampStep step (brakeDecrement p) = brakedStep p step := by
  unfold rampStep brakeDecrement brakedStep
  dsimp only
  rcases Int.lt_trichotomy step 0 with h | rfl | h
  · rw [Int.sign_eq_neg_one_of_neg h]; split <;> omega
  · simp
  · rw [Int.sign_eq_one_of_pos h]; split <;> omega

/-- R78: an axis with two demands has been formed as braking, by the Axis Parameter Set. -/
def BrakesAs (inp : Inputs) (i : Axis) (last : Int) (a : AxisMotion) (f : Formed) : Prop :=
  ∀ before p, a.prev = some before → inp.params = some p →
    f.value = last + brakedStep (p.get i) (last - before)
      ∧ f.motion = if brakedStep (p.get i) (last - before) = 0 then .hold else .brake

section
variable {inp : Inputs} {i : Axis} {last : Int} {a : AxisMotion} {g : Segment}

theorem formBrake_brakesAs (h : a.last = some last) : BrakesAs inp i last a (formBrake inp i last a.step) := by
  intro before p hprev hparams
  have hstep : a.step = last - before := by simp only [AxisMotion.step, h, hprev]
  simp only [formBrake, hstep, hparams, Option.getD_some, rampStep_brakeDecrement, and_self]

theorem formBrake_motion (step : Int) :
    (formBrake inp i last step).motion = .brake ∨ (formBrake inp i last step).motion = .hold := by
  unfold formBrake
  dsimp only
  split
  · exact .inr rfl
  · exact .inl rfl

/-! ## Following (R83 to R88) -/

/-- R87, R88: the guide offset and the wrap turn of an axis. -/
theorem composed_eq (inp : Inputs) (g : Segment) (i : Axis) :
    composed inp g i = segmentAt g i inp.t
      + correction inp.grid (segmentAt g .az inp.t) (segmentAt g .el inp.t) i
      + (if i = .az then inp.azOffset else if i = .el then inp.elOffset else 0)
      + (if i = .az then inp.wraps.az else if i = .rot then inp.wraps.rot else 0) * 1296000000 := by
  cases i <;> simp [composed, offsetOf, wrapShare, Config.circle]

theorem formTrack_of_segment (step : Int) (h : inp.segment = some g) :
    (formTrack inp i last step).value = composed inp g i
      ∧ (formTrack inp i last step).motion = if inp.coverage = .within then .track else .coast := by
  simp only [formTrack, h, and_self]

theorem formTrack_of_uncovered (step : Int) (h : inp.segment = none) :
    (formTrack inp i last step).value = (formBrake inp i last step).value
      ∧ (formTrack inp i last step).motion = (formBrake inp i last step).motion := by
  simp only [formTrack, h, and_self]

theorem formTrack_brakesAs (hl : a.last = some last) (h : inp.segment = none) :
    BrakesAs inp i last a (formTrack inp i last a.step) := by
  obtain ⟨hvalue, hmotion⟩ := formTrack_of_uncovered (i := i) (last := last) a.step h
  unfold BrakesAs
  rw [hvalue, hmotion]
  exact formBrake_brakesAs hl

end

/-- Settles O48: the motion mode chooses the evaluation, and each evaluation has its own equation; a profile and the
grid's correction are one `nearest` each. -/
theorem eachMotionModeFormsItsValue : Obligations.EachMotionModeFormsItsValue := by
  unfold Obligations.EachMotionModeFormsItsValue
  refine ⟨fun inp i last a hlast => ?modes, fun p u => profileAt_isNearest,
    fun nodes az el i c r fa fe _ _ hr haz hfa hfa' hel hfe hfe' => ⟨?grid, rfl⟩⟩
  case modes =>
    simp only [form_of_last hlast, ← composed_eq]
    refine ⟨fun hm hstart => ?hold, fun hm => ?brake, fun l hm hstart hline => ?project,
      fun p hp hm => ⟨fun hrun => ?slew, fun hover hfollow => ?arrived, fun hover hfollow => ?follow⟩,
      fun hm => ?track⟩
    case hold =>
      rw [formSet_hold hm (startsNow_eq_false hstart)]
      exact ⟨rfl, rfl⟩
    case brake =>
      rw [formSet_brake hm]
      exact formBrake_brakesAs hlast
    case project =>
      rw [formSet_project hm (startsNow_eq_false hstart), formProject, hline]
      exact ⟨rfl, rfl⟩
    case slew =>
      rw [formSet_slew hp hm, formSlew_of_running _ hrun]
      exact ⟨rfl, rfl⟩
    case arrived =>
      rw [formSet_slew hp hm, formSlew_of_over _ hover, formFollow, hfollow]
      exact ⟨rfl, rfl⟩
    case follow =>
      rw [formSet_slew hp hm, formSlew_of_over _ hover, formFollow, hfollow]
      exact ⟨fun g hg => (formTrack_of_segment _ hg).symm, formTrack_brakesAs hlast⟩
    case track =>
      rw [formSet_following hm]
      refine ⟨fun g => formTrack_of_segment _, fun hnone => ⟨?_, formTrack_brakesAs hlast hnone⟩⟩
      rw [(formTrack_of_uncovered _ hnone).2]
      exact formBrake_motion _
  case grid =>
    rw [correction, gridCorrection_eq nodes i hr haz hfa hfa' hel hfe hfe']
    exact isNearest_nearest _ (by decide)

end Sys2Proof.Proofs.DemandComputation
end

section
/-! The frame of a demand expiry (R95, R119): the axis problems that its sending finds and what the units judge after
it leave it as it was sent. -/

namespace Sys2Proof.Proofs.DemandComputation
open Sys2Proof.Machine Sys2Proof.Proofs.SlewPlanning

/-! ## The frame last sent -/

/-- R149: the end of a gust rest turns off the rest override alone. -/
theorem endRestByMode_frame (s : State) : (endRestByMode s).bus.frame = s.bus.frame := by
  unfold endRestByMode
  split
  · rfl
  · dsimp only
    split <;> simp

theorem changeMode_frame (m : Mode) (s : State) : (changeMode m s).bus.frame = s.bus.frame := by
  have hgust : ∀ u, (settleGust m u).bus.frame = u.bus.frame := fun u => by
    unfold settleGust
    split
    · rfl
    · rw [endRestByMode_frame]; simp
  simp [changeMode, hgust]

theorem axisProblem_frame (s : State) : (axisProblem s).bus.frame = s.bus.frame := by
  unfold axisProblem enterFault
  split
  · simp [changeMode_frame]
  split
  · rfl
  · simp

theorem sendAxis_frame (i : Axis) (seq : BitVec 16) (pos : Option Int) (first : Bool) (s : State) :
    (sendAxis i seq pos first s).bus.frame = s.bus.frame := by
  unfold sendAxis
  dsimp only
  split
  · rw [axisProblem_frame]; rfl
  · rfl

theorem sendFrame_frame (t : Nat) (pos : Tri (Option Int)) (vel : Tri Int) (s : State) :
    ∃ f, (sendFrame t pos vel s).bus.frame = some f ∧ f.pos = pos.map (fun p => p.getD 0) := by
  simp only [sendFrame, sendAxis_frame]
  exact ⟨_, rfl, rfl⟩

/-! ## What Emit sends (R75, R95) -/

theorem formTrack_unset (inp : Inputs) (i : Axis) (last step : Int) : (formTrack inp i last step).unset = false := by
  unfold formTrack
  split <;> rfl

theorem formSlew_unset (inp : Inputs) (i : Axis) (p : Profile) (last step : Int) :
    (formSlew inp i p last step).unset = false := by
  unfold formSlew formFollow
  split
  · split
    · exact formTrack_unset inp i last step
    · rfl
  · rfl

theorem formSet_unset (inp : Inputs) (i : Axis) (last : Int) (a : AxisMotion) :
    (formSet inp i last a).unset = false := by
  cases hm : a.motion with
  | hold =>
    cases hp : a.profile with
    | none => simp only [formSet, hm, hp, formHold]
    | some p => simp only [formSet, hm, hp, formHold, apply_ite Formed.unset, formSlew_unset, ite_self]
  | project =>
    cases hp : a.profile with
    | none => simp only [formSet, hm, hp, formProject]
    | some p => simp only [formSet, hm, hp, formProject, apply_ite Formed.unset, formSlew_unset, ite_self]
  | slew =>
    cases hp : a.profile with
    | none => simp only [formSet, hm, hp, formBrake]
    | some p => simp only [formSet, hm, hp, formSlew_unset]
  | brake => simp only [formSet, hm, formBrake]
  | track => simp only [formSet, hm, formTrack_unset]
  | coast => simp only [formSet, hm, formTrack_unset]

/-- R90, R91: the lower end of the range of an axis, beside the AZ position of the same expiry. -/
def lowerEnd (inp : Inputs) (az : Int) (i : Axis) (p : AxisParams) : Int :=
  if i = .el then elFloor p inp.mask az else p.lower

theorem limitAll_get (inp : Inputs) (axes : Tri AxisMotion) (f : Tri Formed) (i : Axis) :
    (limitAll inp axes f).get i
      = limit inp.params i (lowerEnd inp (limitAll inp axes f).az.value i) (axes.get i).last (f.get i) := by
  cases i <;> rfl

/-- R75, R95: an axis goes with the value of its Limit stage; an unset one is formed and sent as 0. -/
theorem emitted_pos (inp : Inputs) (i : Axis) (lo : AxisParams → Int) (a : AxisMotion) :
    ((a.emitted (form inp i a) (limit inp.params i lo a.last (form inp i a))).last).getD 0
      = (limit inp.params i lo a.last (form inp i a)).value := by
  cases h : a.last with
  | none => cases inp.params <;> simp [AxisMotion.emitted, form, limit, h]
  | some l => simp [AxisMotion.emitted, form_of_last h, formSet_unset]

/-- R75, R89 to R91: the Limit stage of every axis at the expiry of a state. -/
def expiryLimited (s : State) : Tri Limited :=
  let inp := takeInputs s.now s
  limitAll inp s.traj.axes (formAll inp s.traj.axes)

theorem emittedAxes_pos {m : Mode} (h : m.isEnabled = true) (s : State) (i : Axis) :
    ((emittedAxes m (formAll (takeInputs s.now s) s.traj.axes) (expiryLimited s) s.traj.axes).get i).last.getD 0
      = ((expiryLimited s).get i).value := by
  simp only [emittedAxes, h, if_true, tri_get_of, expiryLimited, limitAll_get, formAll]
  exact emitted_pos _ _ _ _

/-- R73: the coverage kept is no part of an axis's record. -/
theorem keepCoverage_axes (inp : Inputs) (f : Tri Formed) (s : State) :
    (keepCoverage inp f s).traj.axes = s.traj.axes := by
  unfold keepCoverage
  split <;> rfl

/-- R74, R95: the frame of an expiry in an enabled mode carries the Limit stage's values. -/
theorem runExpiry_frame {s : State} (h : s.mode.mode.isEnabled = true) :
    ∃ f, (runExpiry s).bus.frame = some f ∧ ∀ i, f.pos.get i = ((expiryLimited s).get i).value := by
  simp only [runExpiry, startCounting_units, sequencerAtExpiry_units, emit, keepCoverage_units, keepCoverage_axes]
  obtain ⟨f, hframe, hpos⟩ := sendFrame_frame _ _ _ _
  refine ⟨f, hframe, fun i => ?_⟩
  rw [hpos, tri_get_map, tri_get_map]
  exact emittedAxes_pos h s i

end Sys2Proof.Proofs.DemandComputation
end

section
/-! The Limit stage (R89 to R91). -/

namespace Sys2Proof.Proofs.DemandComputation
open Sys2Proof.Machine Sys2Proof.Proofs.SlewPlanning

/-! ## One axis -/

theorem clampInt_mem {lo hi : Int} (v : Int) (h : lo ≤ hi) :
    lo ≤ clampInt lo hi v ∧ clampInt lo hi v ≤ hi
      ∧ (clampInt lo hi v ≠ lo → clampInt lo hi v ≠ hi → clampInt lo hi v = v) := by
  rw [clampInt_eq v h]
  omega

/-- R89: the velocity clamp holds the demand within one step of the last. -/
theorem velocityClamp_near (p : AxisParams) (last v : Int) (h : 0 ≤ p.vmax) :
    ((velocityClamp p last v).1 - last).natAbs ≤ (p.vmax / 200).toNat := by
  unfold velocityClamp
  dsimp only
  split
  · dsimp only; omega
  split <;> dsimp only <;> omega

/-- R89 to R91: a demand leaves within its range, and within one step of the last where the range has not moved it. -/
theorem limitWithin_mem (p : AxisParams) {lo hi : Int} (last v : Int) (h : lo ≤ hi) :
    lo ≤ (limitWithin p lo hi last v).value ∧ (limitWithin p lo hi last v).value ≤ hi
      ∧ ((limitWithin p lo hi last v).value ≠ lo → (limitWithin p lo hi last v).value ≠ hi → 0 ≤ p.vmax →
        ((limitWithin p lo hi last v).value - last).natAbs ≤ (p.vmax / 200).toNat) := by
  obtain ⟨hlo, hhi, hunmoved⟩ := clampInt_mem (velocityClamp p last v).1 h
  refine ⟨hlo, hhi, fun hne hne' hv => ?_⟩
  have hsame : (limitWithin p lo hi last v).value = (velocityClamp p last v).1 := hunmoved hne hne'
  rw [hsame]
  exact velocityClamp_near p last v hv

/-! ## Every axis of an expiry -/

/-- R91: the lower end of the range of an axis, while AZ is sent to `azPos`. -/
def rangeFloor (tb : TableState) (limits : Tri AxisParams) (azPos : Int) (i : Axis) : Int :=
  if i = .el then max limits.el.lower (if tb.maskStatus = .valid then
    tb.mask.getD ((azPos % 1296000000) / 18000000).toNat 0 else 0) else (limits.get i).lower

theorem lowerEnd_takeInputs (s : State) (t : Nat) (limits : Tri AxisParams) (azPos : Int) (i : Axis) :
    lowerEnd (takeInputs t s) azPos i (limits.get i) = rangeFloor s.tables limits azPos i := by
  cases i with
  | el => exact elFloor_eq limits.el s azPos
  | az => rfl
  | rot => rfl

theorem expiryLimited_get {s : State} {limits : Tri AxisParams} {i : Axis} {l : Int}
    (hstatus : s.tables.paramsStatus = .valid) (h : s.tables.params = [limits.az, limits.el, limits.rot])
    (hlast : (s.traj.axes.get i).last = some l) :
    (expiryLimited s).get i
      = limitWithin (limits.get i) (rangeFloor s.tables limits (expiryLimited s).az.value i) (limits.get i).upper l
        (form (takeInputs s.now s) i (s.traj.axes.get i)).value := by
  have hparams : (takeInputs s.now s).params = some limits := by
    simp only [takeInputs, validParams, hstatus, h, if_true]
  rw [← lowerEnd_takeInputs s s.now]
  simp only [expiryLimited, limitAll_get, limit, hparams, hlast, formAll, tri_get_of]

section
variable {tb : TableState} {limits : Tri AxisParams}
  (hmask : tb.maskStatus = .valid → ∀ v ∈ tb.mask, v ≤ limits.el.upper) (h : 0 ≤ limits.el.upper)
include hmask h

/-- R163: the mask, while it is VALID, stands nowhere above the EL upper limit. -/
theorem maskOrZero_le (n : Nat) : (if tb.maskStatus = .valid then tb.mask.getD n 0 else 0) ≤ limits.el.upper := by
  split
  · next hvalid =>
    rw [List.getD_eq_getElem?_getD]
    cases hn : tb.mask[n]? with
    | none => exact h
    | some v => exact hmask hvalid v (List.mem_of_getElem? hn)
  · exact h

theorem rangeFloor_le (hlimits : ∀ i, (limits.get i).lower < (limits.get i).upper) (azPos : Int) (i : Axis) :
    rangeFloor tb limits azPos i ≤ (limits.get i).upper := by
  unfold rangeFloor
  split
  · next hel =>
    subst hel
    exact Int.max_le.mpr ⟨Int.le_of_lt (hlimits .el), maskOrZero_le hmask h _⟩
  · exact Int.le_of_lt (hlimits i)

end

/-! ## The command -/

theorem exec_demandExpiry {dt : Nat} {s : State} (hperiod : (advance dt s).now % 5000 = 0)
    (hnext : s.traj.nextExpiry ≤ (advance dt s).now) :
    exec (.demandExpiry dt) s = .next (runExpiry (beginExpiry (advance dt s))) := by
  have hdue : expiryDue (advance dt s) = true := by
    simp [expiryDue, Config.demandPeriod, hperiod, hnext]
  show Host.Outcome.next (if expiryDue (advance dt s) then expiry (advance dt s) else advance dt s) = _
  rw [if_pos hdue, expiry]

/-- R43, R46: the beginning of an expiry leaves the axes, the mode and the tables. -/
theorem beginExpiry_advance (dt : Nat) (s : State) :
    (beginExpiry (advance dt s)).traj.axes = s.traj.axes ∧ (beginExpiry (advance dt s)).mode.mode = s.mode.mode
      ∧ (beginExpiry (advance dt s)).tables = s.tables := by
  refine ⟨?_, ?_, ?_⟩
  · simp [beginExpiry]
  · simp [advance]
  · simp

/-- Settles O50: the frame carries the Limit stage's values, and that stage clamps each to a range that the validation
of the tables leaves open. -/
theorem everyDemandLeavesWithinItsLimits : Obligations.EveryDemandLeavesWithinItsLimits := by
  unfold Obligations.EveryDemandLeavesWithinItsLimits
  intro dt az el rot s hperiod hnext hmode hstatus hparams hmask haz hel hrot hupper
  obtain ⟨haxes, hsame, htables⟩ := beginExpiry_advance dt s
  obtain ⟨f, hframe, hpos⟩ := runExpiry_frame (s := beginExpiry (advance dt s)) (by rw [hsame]; exact hmode)
  refine ⟨_, f, exec_demandExpiry hperiod hnext, hframe, ?_⟩
  intro limits masked floor i l hlast
  have hlimits : ∀ i, (limits.get i).lower < (limits.get i).upper
    | .az => haz
    | .el => hel
    | .rot => hrot
  have hopen : floor i ≤ (limits.get i).upper :=
    rangeFloor_le (fun hvalid => (hmask hvalid).2) hupper hlimits f.pos.az i
  have hvalue := expiryLimited_get (s := beginExpiry (advance dt s)) (limits := limits) (by rw [htables]; exact hstatus)
    (by rw [htables]; exact hparams) (by rw [haxes]; exact hlast)
  have hazPos : (expiryLimited (beginExpiry (advance dt s))).az.value = f.pos.az := (hpos .az).symm
  rw [htables, hazPos] at hvalue
  rw [hpos i, hvalue]
  exact limitWithin_mem (limits.get i) l _ hopen

end Sys2Proof.Proofs.DemandComputation
end

section
/-! No guide offset stands while no entry is in TRACKING (R101): what the Sequencer's operations do to the phase and
the offsets. -/

namespace Sys2Proof.Proofs.Guiding
open Sys2Proof.Machine Sys2Proof.Proofs.SlewPlanning

/-! ## The law's frame -/

theorem guideLaw_congr {s t : State} (h : GuideLaw s) (hphase : t.seq.atr.phase = s.seq.atr.phase)
    (hoffsets : t.guide.azOffset = s.guide.azOffset ∧ t.guide.elOffset = s.guide.elOffset) : GuideLaw t := by
  obtain ⟨haz, hel⟩ := hoffsets
  unfold GuideLaw
  rw [hphase, haz, hel]
  exact h

/-- The law speaks of the phase and the Guide Unit alone. -/
theorem guideLaw_frame {s t : State} (h : GuideLaw s)
    (hsame : t.seq.atr.phase = s.seq.atr.phase ∧ t.guide = s.guide) : GuideLaw t := by
  obtain ⟨hphase, hguide⟩ := hsame
  exact guideLaw_congr h hphase (by rw [hguide]; exact ⟨rfl, rfl⟩)

theorem guideLaw_of_zero {s : State} (haz : s.guide.azOffset = 0) (hel : s.guide.elOffset = 0) : GuideLaw s :=
  fun _ => ⟨haz, hel⟩

theorem guideLaw_of_tracking {s : State} (h : s.seq.atr.phase = .tracking) : GuideLaw s :=
  fun hne => absurd h hne

/-- A choice keeps the law when both of its branches do. -/
theorem guideLaw_ite {p : Prop} [Decidable p] {s t : State} (hs : GuideLaw s) (ht : GuideLaw t) :
    GuideLaw (if p then s else t) := by
  split
  · exact hs
  · exact ht

@[simp] theorem latch_guideLaw (k : EventKind) (s : State) : GuideLaw (latch k s) ↔ GuideLaw s :=
  ⟨fun h => guideLaw_frame h (by simp), fun h => guideLaw_frame h (by simp)⟩

@[simp] theorem setMode_guideLaw (s : State) (x : ModeState) : GuideLaw (s.setMode x) ↔ GuideLaw s := Iff.rfl

@[simp] theorem setGust_guideLaw (s : State) (x : GustState) : GuideLaw (s.setGust x) ↔ GuideLaw s := Iff.rfl

@[simp] theorem setAlert_guideLaw (c : AlertCause) (b : Bool) (s : State) :
    GuideLaw (setAlert c b s) ↔ GuideLaw s := Iff.rfl

/-! ## Operations of the Sequencer that leave the phase -/

@[simp] theorem refreshPreemptTimer_phase (s : State) :
    (refreshPreemptTimer s).seq.atr.phase = s.seq.atr.phase := by
  unfold refreshPreemptTimer
  split <;> rfl

@[simp] theorem followHead_phase (before : Option Nat) (s : State) :
    (followHead before s).seq.atr.phase = s.seq.atr.phase := by
  unfold followHead
  split
  · rfl
  · simp

@[simp] theorem skipHead_phase (o : Ending) (e : Entry) (rest : List Entry) (s : State) :
    (skipHead o e rest s).seq.atr.phase = s.seq.atr.phase := by
  rw [skipHead_seq]

@[simp] theorem addHold_phase (r : HoldReason) (s : State) :
    (addHold r s).seq.atr.phase = s.seq.atr.phase := rfl

@[simp] theorem stopRun_phase (s : State) : (stopRun s).seq.atr.phase = s.seq.atr.phase := rfl

@[simp] theorem countTracked_phase (t : Nat) (s : State) :
    (countTracked t s).seq.atr.phase = s.seq.atr.phase := by
  unfold countTracked
  split <;> rfl

@[simp] theorem tellInstalled_phase (r : PlanRec) (s : State) :
    (tellInstalled r s).seq.atr.phase = s.seq.atr.phase := by
  unfold tellInstalled
  split
  · rfl
  · split <;> rfl

@[simp] theorem leaveMode_phase (old new : Mode) (s : State) :
    (leaveMode old new s).seq.atr.phase = s.seq.atr.phase := by
  unfold leaveMode
  dsimp only
  split <;> cases old <;> simp

@[simp] theorem countFailure_phase (s : State) : (countFailure s).seq.atr.phase = s.seq.atr.phase := by
  simp [countFailure]

/-! ## Operations of the Guide Unit that leave the offsets -/

theorem guideSuspend_guideLaw {s : State} (h : GuideLaw s) : GuideLaw (guideSuspend s) := by
  refine guideLaw_congr h (by simp) ?_
  unfold guideSuspend
  split <;> simp

theorem guideUnsuspend_guideLaw {s : State} (h : GuideLaw s) : GuideLaw (guideUnsuspend s) := by
  refine guideLaw_congr h (by simp) ?_
  unfold guideUnsuspend
  split <;> simp

theorem silenceExpires_guideLaw {s : State} (e : Nat) (h : GuideLaw s) : GuideLaw (silenceExpires e s) :=
  guideLaw_congr h (by simp) (by simp [silenceExpires])

/-! ## Selection (R11 to R16) -/

/-- R104: an activation makes the offsets 0. -/
theorem activate_guideLaw (e : Entry) (rest : List Entry) (s : State) : GuideLaw (activate e rest s) :=
  guideLaw_of_zero (by simp [activate, guideZero]) (by simp [activate, guideZero])

theorem selectRounds_guideLaw (n : Nat) {s : State} (h : GuideLaw s) : GuideLaw (selectRounds n s) := by
  induction n generalizing s with
  | zero => exact h
  | succ n ih =>
    unfold selectRounds
    split
    · exact h
    · next e rest _ =>
      have hskipped : ∀ o, GuideLaw (selectRounds n (skipHead o e rest s)) := fun o => ih (guideLaw_frame h (by simp))
      exact guideLaw_ite h <| guideLaw_ite (hskipped .expired) <| guideLaw_ite h <|
        guideLaw_ite (activate_guideLaw e rest s) <| guideLaw_ite (hskipped .noTrack) h

theorem select_guideLaw {s : State} (h : GuideLaw s) : GuideLaw (select s) :=
  guideLaw_ite (selectRounds_guideLaw _ h) h

/-! ## Endings and preemption (R22 to R25) -/

/-- R103: an ending makes the offsets 0. -/
theorem closeObservation_guideLaw (o : Ending) (back : Option Entry) (s : State) :
    GuideLaw (closeObservation o back s) :=
  guideLaw_of_zero (by simp [closeObservation, guideStop_guide]) (by simp [closeObservation, guideStop_guide])

theorem endObservation_guideLaw (o : Ending) {s : State} (h : GuideLaw s) : GuideLaw (endObservation o s) := by
  have hclosed : GuideLaw (compareWindow (windowIds s) (closeObservation o none s)) :=
    guideLaw_frame (closeObservation_guideLaw o none s) (by simp)
  exact guideLaw_ite (guideLaw_frame (select_guideLaw hclosed) (by simp)) h

theorem endPreempted_guideLaw (e : Entry) (s : State) : GuideLaw (endPreempted e s) :=
  guideLaw_frame (select_guideLaw (closeObservation_guideLaw .preempted
    (requeuedEntry e (trackedAt s.seq.atr s.now)) s)) (by simp [endPreempted])

theorem examinePreemption_guideLaw {s : State} (h : GuideLaw s) : GuideLaw (examinePreemption s) := by
  unfold examinePreemption
  split
  · exact guideLaw_ite (endPreempted_guideLaw _ s) h
  · exact h

theorem selectOrPreempt_guideLaw {s : State} (h : GuideLaw s) : GuideLaw (selectOrPreempt s) :=
  guideLaw_ite (examinePreemption_guideLaw h) (select_guideLaw h)

theorem clearHold_guideLaw (r : HoldReason) {s : State} (h : GuideLaw s) : GuideLaw (clearHold r s) := by
  have hdropped : GuideLaw (dropHold r s) := h
  exact guideLaw_ite (guideLaw_ite (selectOrPreempt_guideLaw hdropped) hdropped) h

/-! ## The observation's phases (R18 to R21) -/

theorem beginTracking_guideLaw (s : State) : GuideLaw (beginTracking s) :=
  guideLaw_of_tracking (by simp [beginTracking])

theorem seqReport_guideLaw (i : Axis) (fe : Int) {s : State} (h : GuideLaw s) : GuideLaw (seqReport i fe s) := by
  unfold seqReport
  split
  · exact guideLaw_ite (beginTracking_guideLaw _) h
  · exact h
  · exact h

theorem startSlewing_guideLaw (t : Nat) {s : State} (h : GuideLaw s) : GuideLaw (startSlewing t s) := by
  unfold startSlewing
  split
  · next hplanning =>
    obtain ⟨haz, hel⟩ := h (by simp [hplanning.1])
    exact guideLaw_of_zero haz hel
  · exact h

theorem startSettling_guideLaw {s : State} (h : GuideLaw s) : GuideLaw (startSettling s) := by
  unfold startSettling
  split
  · next hslewing =>
    obtain ⟨haz, hel⟩ := h (by simp [hslewing.1])
    exact guideLaw_of_zero haz hel
  · exact h

theorem judgeDwell_guideLaw (t : Nat) {s : State} (h : GuideLaw s) : GuideLaw (judgeDwell t s) := by
  unfold judgeDwell
  split
  · exact guideLaw_ite (endObservation_guideLaw .done h) h
  · exact h

theorem takeCause_guideLaw (c : Option Ending) {s : State} (h : GuideLaw s) : GuideLaw (takeCause c s) := by
  cases c with
  | none => exact h
  | some o => exact endObservation_guideLaw o h

theorem sequencerAtExpiry_guideLaw (t : Nat) (c : Option Ending) {s : State} (h : GuideLaw s) :
    GuideLaw (sequencerAtExpiry t c s) := by
  have hcounted : GuideLaw (countTracked t (startSettling (startSlewing t s))) :=
    guideLaw_frame (startSettling_guideLaw (startSlewing_guideLaw t h)) (by simp)
  exact judgeDwell_guideLaw t (takeCause_guideLaw c hcounted)

theorem tellSegment_guideLaw (id : Nat) {s : State} (h : GuideLaw s) : GuideLaw (tellSegment id s) :=
  guideLaw_ite (selectOrPreempt_guideLaw h) h

end Sys2Proof.Proofs.Guiding
end

section
/-! No guide offset stands while no entry is in TRACKING (R101): the Mode Controller, the Load Monitor and the Axis
Bus Controller, which reach the Sequencer and the Guide Unit. -/

namespace Sys2Proof.Proofs.Guiding
open Sys2Proof.Machine Sys2Proof.Proofs.SlewPlanning

variable {s : State} (h : GuideLaw s)
include h

/-! ## Gust level 1, rests and changes of mode (R142, R147 to R149, R170) -/

theorem releaseLevel_guideLaw : GuideLaw (releaseLevel s) :=
  guideLaw_ite (clearHold_guideLaw .gustL1 (guideUnsuspend_guideLaw h)) h

theorem endRest_guideLaw : GuideLaw (endRest s) :=
  (setAlert_guideLaw _ _ _).mpr (clearHold_guideLaw .gustRest h)

theorem endRestByMode_guideLaw : GuideLaw (endRestByMode s) :=
  have hcleared : GuideLaw (clearHold .gustRest _) := clearHold_guideLaw .gustRest (guideLaw_frame h (by simp))
  guideLaw_ite h (guideLaw_ite hcleared ((setAlert_guideLaw _ _ _).mpr hcleared))

theorem restAtStop_guideLaw : GuideLaw (restAtStop s) := by
  unfold restAtStop
  split
  · exact endRest_guideLaw h
  · exact h
  · exact h

theorem restAtMotion_guideLaw : GuideLaw (restAtMotion s) := by
  unfold restAtMotion
  split
  · exact endRest_guideLaw h
  · exact h
  · exact h

theorem changeMode_guideLaw (new : Mode) : GuideLaw (changeMode new s) := by
  have hleft : GuideLaw (leaveMode s.mode.mode new (latch .modeChanged (s.setMode { s.mode with mode := new }))) :=
    guideLaw_frame h (by simp)
  have hgust : GuideLaw (settleGust new
      (leaveMode s.mode.mode new (latch .modeChanged (s.setMode { s.mode with mode := new })))) :=
    guideLaw_ite hleft (endRestByMode_guideLaw (releaseLevel_guideLaw hleft))
  exact guideLaw_frame hgust (by simp [changeMode])

theorem enterFault_guideLaw : GuideLaw (enterFault s) :=
  guideLaw_ite (endObservation_guideLaw .fault (changeMode_guideLaw h .fault)) h

theorem beginStow_guideLaw : GuideLaw (beginStow s) :=
  restAtMotion_guideLaw (guideLaw_frame (endObservation_guideLaw .stopped (changeMode_guideLaw h .stowing)) (by simp))

theorem beginPark_guideLaw : GuideLaw (beginPark s) :=
  restAtMotion_guideLaw (guideLaw_frame (endObservation_guideLaw .stopped (changeMode_guideLaw h .parking)) (by simp))

theorem makeReady_guideLaw : GuideLaw (makeReady s) :=
  guideLaw_frame (changeMode_guideLaw h .ready) (by simp [makeReady])

/-! ## Supervision (R181, R182) -/

theorem superviseFail_guideLaw : GuideLaw (superviseFail s) := by
  have hcounted : GuideLaw (countFailure s) := guideLaw_frame h (by simp)
  exact guideLaw_ite (beginStow_guideLaw hcounted) hcounted

theorem countKeepalive_guideLaw (toggle : Bool) (period : Nat) : GuideLaw (countKeepalive toggle period s) := by
  unfold countKeepalive
  dsimp only
  split <;> simp only [setAlert_guideLaw, setMode_guideLaw] <;> exact clearHold_guideLaw .link h

/-! ## Reports at the Mode Controller (R126, R129, R172, R176) -/

theorem axisProblem_guideLaw : GuideLaw (axisProblem s) :=
  guideLaw_ite (enterFault_guideLaw h) (guideLaw_ite h (guideLaw_frame h (by simp)))

theorem markEnabled_guideLaw (i : Axis) : GuideLaw (markEnabled i s) :=
  guideLaw_ite (makeReady_guideLaw h) h

theorem countMotion_guideLaw (i : Axis) (fe : Int) : GuideLaw (countMotion i fe s) :=
  guideLaw_ite (guideLaw_ite (changeMode_guideLaw (guideLaw_frame h (by simp)) _) h) h

theorem modeReport_guideLaw (i : Axis) (drive : DriveState) (fe : Option Int) (problem : Bool) :
    GuideLaw (modeReport i drive fe problem s) := by
  have hproblem : GuideLaw (if problem then axisProblem s else s) := guideLaw_ite (axisProblem_guideLaw h) h
  cases fe with
  | none => exact guideLaw_ite (markEnabled_guideLaw hproblem i) hproblem
  | some e => exact countMotion_guideLaw (guideLaw_ite (markEnabled_guideLaw hproblem i) hproblem) i e

/-! ## Reports at the Load Monitor (R136 to R147) -/

theorem judgeRunaway_guideLaw (i : Axis) (fe : Int) : GuideLaw (judgeRunaway i fe s) :=
  guideLaw_ite ((setGust_guideLaw _ _).mpr (enterFault_guideLaw h)) h

theorem gustStow_guideLaw : GuideLaw (gustStow s) :=
  clearHold_guideLaw .gustRest (beginStow_guideLaw h)

theorem levelTwo_guideLaw : GuideLaw (levelTwo s) := by
  have hended : GuideLaw (latch .gustL2 (setAlert .gust true
      (endObservation .gust (addHold .gustRest (countLevelTwo s))))) := by
    rw [latch_guideLaw, setAlert_guideLaw]
    exact endObservation_guideLaw .gust (guideLaw_frame h (by simp))
  exact guideLaw_ite (gustStow_guideLaw hended) (guideLaw_frame hended (by simp))

theorem judgeLevelOne_guideLaw (i : Axis) : GuideLaw (judgeLevelOne i s) :=
  guideLaw_ite ((latch_guideLaw _ _).mpr (guideSuspend_guideLaw h)) h

theorem judgeLevelTwo_guideLaw (i : Axis) : GuideLaw (judgeLevelTwo i s) :=
  guideLaw_ite (levelTwo_guideLaw h) h

theorem judgeRelease_guideLaw (i : Axis) (quiet : Bool) : GuideLaw (judgeRelease i quiet s) := by
  have hcounted : ∀ a, GuideLaw (setAxisGust i a s) := fun _ => h
  exact guideLaw_ite (guideLaw_ite (releaseLevel_guideLaw (hcounted _)) (hcounted _)) h

theorem judgeLevels_guideLaw (i : Axis) (fe : Int) : GuideLaw (judgeLevels i fe s) :=
  have hwarned : GuideLaw (judgeWarn i _) := guideLaw_frame h (by simp)
  guideLaw_ite (judgeRelease_guideLaw (judgeLevelTwo_guideLaw (judgeLevelOne_guideLaw hwarned i) i) i _) h

theorem judgeCheck_guideLaw (i : Axis) (drive : DriveState) : GuideLaw (judgeCheck i drive s) :=
  guideLaw_ite (guideLaw_ite (endRest_guideLaw h) h) h

theorem gustReport_guideLaw (i : Axis) (drive : DriveState) (fe : Option Int) :
    GuideLaw (gustReport i drive fe s) := by
  cases fe with
  | none => exact judgeCheck_guideLaw h i drive
  | some e => exact judgeCheck_guideLaw (judgeLevels_guideLaw (judgeRunaway_guideLaw h i e) i e) i drive

/-! ## The Axis Bus and the demand expiry (R74, R119, R123 to R126) -/

theorem seqReportOpt_guideLaw (i : Axis) (fe : Option Int) : GuideLaw (seqReportOpt i fe s) := by
  cases fe with
  | none => exact h
  | some e => exact seqReport_guideLaw i e h

theorem takeMatched_guideLaw (r : Report) (entry : HistEntry) : GuideLaw (takeMatched r entry s) := by
  have hset : ∀ b, GuideLaw (setUnset r.axis r.measured (setAxisRec r.axis b s)) := fun b =>
    guideLaw_frame h (by simp)
  exact gustReport_guideLaw (seqReportOpt_guideLaw (modeReport_guideLaw (hset _) r.axis r.drive _ _) r.axis _)
    r.axis r.drive _

theorem takeBusFrame_guideLaw (wire : List Byte) : GuideLaw (takeBusFrame wire s) := by
  unfold takeBusFrame takeReport
  split
  · dsimp only
    split
    · exact takeMatched_guideLaw h _ _
    · exact h
  · exact h

theorem sendAxis_guideLaw (i : Axis) (seq : BitVec 16) (pos : Option Int) (first : Bool) :
    GuideLaw (sendAxis i seq pos first s) :=
  guideLaw_ite (axisProblem_guideLaw h) h

theorem sendFrame_guideLaw (t : Nat) (pos : Tri (Option Int)) (vel : Tri Int) :
    GuideLaw (sendFrame t pos vel s) :=
  sendAxis_guideLaw (sendAxis_guideLaw (sendAxis_guideLaw (guideLaw_frame h (by simp)) .az _ _ _) .el _ _ _) .rot _ _ _

theorem expiry_guideLaw : GuideLaw (expiry s) := by
  have hsent : ∀ t f l inp, GuideLaw (emit t f l (keepCoverage inp f (beginExpiry s))) := fun t f l inp =>
    sendFrame_guideLaw (guideLaw_frame h (by simp)) t _ _
  exact guideLaw_ite ((setMode_guideLaw _ _).mpr (sequencerAtExpiry_guideLaw _ _ (hsent _ _ _ _)))
    (sequencerAtExpiry_guideLaw _ _ (hsent _ _ _ _))

end Sys2Proof.Proofs.Guiding
end

section
/-! No guide offset stands while no entry is in TRACKING (R101): requests and their owners. -/

namespace Sys2Proof.Proofs.Guiding
open Sys2Proof.Machine Sys2Proof.Proofs.SlewPlanning

/-! ## The checks of a correction (R105) -/

theorem firstFailure_eq_none_iff (checks : List (Bool × ResultCode)) :
    firstFailure checks = none ↔ ∀ c ∈ checks, c.1 = false := by
  induction checks with
  | nil => simp [firstFailure]
  | cons c rest ih =>
    obtain ⟨failed, code⟩ := c
    cases failed <;> simp [firstFailure, ih]

theorem errorInRange_iff {d : Int} : errorInRange d = true ↔ -60000 ≤ d ∧ d ≤ 60000 := by
  simp only [errorInRange, Bool.and_eq_true, decide_eq_true_eq]

/-- R105: the six checks that an accepted correction passes. -/
theorem correctionFailure_eq_none_iff (c : Correction) (s : State) :
    correctionFailure c s = none
      ↔ (c.target ≠ 0 ∧ errorInRange c.az = true ∧ errorInRange c.el = true)
        ∧ (∃ e, s.seq.active = some e ∧ e.id = c.target) ∧ s.seq.atr.phase = .tracking ∧ s.guide.mode ≠ .none
        ∧ s.guide.phase ≠ .suspended ∧ ∀ old, s.guide.lastSeq = some old → seqLater c.seq old = true := by
  rw [correctionFailure, firstFailure_eq_none_iff]
  simp [Option.any_eq_true, Option.any_eq_false, and_assoc]

section
variable {s : State} (h : GuideLaw s)
include h

/-- R105: a correction moves the offsets in TRACKING alone. -/
theorem answerGuideCorrection_guideLaw (p : List Byte) : GuideLaw (answerGuideCorrection p s).state := by
  unfold answerGuideCorrection
  split
  · exact h
  · next hok =>
    obtain ⟨-, -, hphase, -⟩ := (correctionFailure_eq_none_iff _ s).mp hok
    exact guideLaw_of_tracking (by simpa [applyCorrection, accept, copyCounters] using hphase)

/-! ## Taking a request -/

theorem answer_guideLaw {act : State → Answer} (check : Option ResultCode) (hact : GuideLaw (act s).state) :
    GuideLaw (answer check act s).state := by
  cases check with
  | none => exact hact
  | some code => exact h

theorem serve_guideLaw {kind : Nat} {lengthOk : Nat → Bool} {owner : List Byte → State → Answer}
    (howner : ∀ p, GuideLaw (owner p s).state) : GuideLaw (serve kind lengthOk owner s) := by
  unfold serve
  split
  · next f _ =>
    split
    · exact guideLaw_frame (howner f.payload) (by simp)
    · exact guideLaw_frame (t := buildReply f.tag _ (refuse .badLength s)) h (by simp [refuse])
  · exact h

theorem serveUnknown_guideLaw : GuideLaw (serveUnknown s) := by
  unfold serveUnknown
  split
  · exact guideLaw_frame h (by simp [refuse])
  · exact h

/-! ## The Sequencer's requests (R6, R7, R27, R37) -/

theorem answerEntryAdd_guideLaw (p : List Byte) : GuideLaw (answerEntryAdd p s).state := by
  unfold answerEntryAdd
  split
  · exact h
  · next e _ =>
    have hplaced : GuideLaw (followHead (headId s) (placeEntry e s)) :=
      guideLaw_frame h (by simp [placeEntry])
    have hafter : GuideLaw (afterAdd e (followHead (headId s) (placeEntry e s))) :=
      guideLaw_ite (guideLaw_ite (guideLaw_ite (examinePreemption_guideLaw hplaced) hplaced)
        (select_guideLaw hplaced)) hplaced
    exact answer_guideLaw h _ hafter

theorem withdrawQueued_guideLaw (id : Nat) : GuideLaw (withdrawQueued id s) :=
  select_guideLaw (guideLaw_frame h (by simp [removeQueued]))

theorem answerEntryWithdraw_guideLaw (p : List Byte) : GuideLaw (answerEntryWithdraw p s).state :=
  answer_guideLaw h _ (guideLaw_ite (endObservation_guideLaw .withdrawn h) (withdrawQueued_guideLaw h _))

theorem answerOutcomeFetch_guideLaw : GuideLaw (answerOutcomeFetch s).state := by
  unfold answerOutcomeFetch
  split
  · exact h
  · exact clearHold_guideLaw .outcomeFull h

theorem acceptSegment_guideLaw (g : Segment) : GuideLaw (acceptSegment g s) := by
  have htold : GuideLaw (tellSegment g.target (placeSegment g s)) := tellSegment_guideLaw _ h
  exact guideLaw_frame htold (by simp [acceptSegment])

theorem answerSegmentPut_guideLaw (p : List Byte) : GuideLaw (answerSegmentPut p s).state := by
  unfold answerSegmentPut
  dsimp only
  split
  · exact h
  · exact acceptSegment_guideLaw h _

/-! ## The Mode Controller's requests (R171 to R175, R178, R179, R181) -/

theorem setTime_guideLaw (t : Nat) : GuideLaw (setTime t s) := guideLaw_frame h ⟨rfl, rfl⟩

theorem answerTimeSet_guideLaw (p : List Byte) : GuideLaw (answerTimeSet p s).state :=
  answer_guideLaw h _ (setTime_guideLaw h (fieldNat p 0 6))

theorem answerKeepalive_guideLaw (p : List Byte) : GuideLaw (answerKeepalive p s).state := by
  have hjudged : ∀ toggle period, GuideLaw (judgeKeepalive toggle period s).2 := fun toggle period => by
    unfold judgeKeepalive
    split
    · exact h
    split
    · exact h
    split
    · exact superviseFail_guideLaw h
    · exact countKeepalive_guideLaw h toggle period
  unfold answerKeepalive
  split
  · exact hjudged _ _
  · exact h

theorem answerUnpark_guideLaw : GuideLaw (answerUnpark s).state :=
  answer_guideLaw h _ (changeMode_guideLaw h .enabling)

theorem answerRun_guideLaw : GuideLaw (answerRun s).state :=
  answer_guideLaw h _ (select_guideLaw (changeMode_guideLaw h .observing))

theorem inObserving_guideLaw {act : State → State} (hact : GuideLaw (act s)) :
    GuideLaw (inObserving act s).state := answer_guideLaw h _ hact

theorem inSupervised_guideLaw {act : State → State} (hact : GuideLaw (act s)) :
    GuideLaw (inSupervised act s).state := answer_guideLaw h _ hact

theorem stopNight_guideLaw : GuideLaw (stopNight s) :=
  restAtStop_guideLaw (endObservation_guideLaw .stopped (changeMode_guideLaw h .ready))

theorem answerRelease_guideLaw : GuideLaw (answerRelease s).state :=
  have hcleared : GuideLaw (clearFailures (clearGusts s)) :=
    (setAlert_guideLaw _ _ _).mpr ((setAlert_guideLaw _ _ _).mpr ((setMode_guideLaw _ _).mpr
      ((setAlert_guideLaw _ _ _).mpr h)))
  answer_guideLaw h _ (changeMode_guideLaw hcleared .enabling)

theorem answerFaultClear_guideLaw : GuideLaw (answerFaultClear s).state :=
  answer_guideLaw h _ (changeMode_guideLaw (s := setAlert .axis false s) h _)

/-! ## The Table Store's requests and the event set's (R157 to R167, R194, R195) -/

theorem answerLoadBegin_guideLaw (p : List Byte) : GuideLaw (answerLoadBegin p s).state := by
  unfold answerLoadBegin
  split
  · exact h
  · exact answer_guideLaw h _ h

theorem answerLoadData_guideLaw (p : List Byte) : GuideLaw (answerLoadData p s).state := by
  unfold answerLoadData
  split
  · exact h
  split
  · exact h
  split <;> exact h

theorem answerLoadBurstEnd_guideLaw (p : List Byte) : GuideLaw (answerLoadBurstEnd p s).state := by
  unfold answerLoadBurstEnd
  split <;> exact h

theorem answerLoadEnd_guideLaw : GuideLaw (answerLoadEnd s).state := by
  unfold answerLoadEnd
  split
  · exact h
  · exact (latch_guideLaw _ _).mpr h

theorem answerLoadAbort_guideLaw : GuideLaw (answerLoadAbort s).state := by
  unfold answerLoadAbort
  split <;> exact h

theorem answerTableRead_guideLaw (p : List Byte) : GuideLaw (answerTableRead p s).state := by
  unfold answerTableRead
  split
  · exact h
  split
  · exact h
  split <;> exact h

theorem answerStatusRead_guideLaw (p : List Byte) : GuideLaw (answerStatusRead p s).state := by
  unfold answerStatusRead
  split <;> exact h

end

end Sys2Proof.Proofs.Guiding
end

section
/-! No guide offset stands while no entry is in TRACKING (R101): every command and every step. -/

namespace Sys2Proof.Proofs.Guiding
open Sys2Proof.Machine Sys2Proof.Proofs.SlewPlanning

section
variable {s : State} (h : GuideLaw s)
include h

/-! ## The part's own events (R55, R66, R184 to R188, R196) -/

theorem advance_guideLaw (dt : Nat) : GuideLaw (advance dt s) := h

theorem takeFrame_guideLaw (wire : List Byte) : GuideLaw (takeFrame wire s) := by
  unfold takeFrame
  split
  · exact guideLaw_ite h (guideLaw_frame h (by simp))
  · exact guideLaw_frame h (by simp [discardBad])

theorem sendReply_guideLaw : GuideLaw (sendReply s) := by
  unfold sendReply
  split <;> exact h

theorem sendNotice_guideLaw : GuideLaw (sendNotice s) := by
  unfold sendNotice
  split <;> exact h

theorem onExpiry_guideLaw {timer : Option Nat} {act : Nat → State → State} (hact : ∀ e, GuideLaw (act e s)) :
    GuideLaw (onExpiry timer act s) := by
  unfold onExpiry
  split
  · exact guideLaw_ite (hact _) h
  · exact h

theorem runPass_guideLaw : GuideLaw (runPass s) := by
  unfold runPass
  split
  · exact guideLaw_ite h h
  · exact h

theorem disposePlan_guideLaw (r : PlanRec) : GuideLaw (disposePlan r s) := by
  have hinstalled : GuideLaw (installPlan r s) := guideLaw_frame h (by simp [installPlan])
  unfold disposePlan
  split
  · split
    · exact hinstalled
    · next o _ =>
      exact guideLaw_frame (endObservation_guideLaw o (s := startWaiting s) h) (by simp)
  · exact guideLaw_frame h (by simp)

theorem completePlan_guideLaw : GuideLaw (completePlan s) := by
  unfold completePlan
  split
  · exact guideLaw_ite (disposePlan_guideLaw h _) h
  · exact h

/-! ## The Sequencer's timers (R13 to R15, R20) -/

theorem notBeforeExpires_guideLaw : GuideLaw (notBeforeExpires s) :=
  guideLaw_ite (selectOrPreempt_guideLaw h) h

theorem settleExpires_guideLaw : GuideLaw (settleExpires s) :=
  guideLaw_ite (endObservation_guideLaw .noSettle h) h

end

/-- R184, R185: a reset leaves the offsets 0. -/
theorem powerOn_guideLaw (strapHigh : Bool) : GuideLaw (State.powerOn strapHigh) := guideLaw_of_zero rfl rfl

theorem linkReset_guideLaw (s : State) : GuideLaw (linkReset s) := guideLaw_of_zero rfl rfl

/-! ## Every command -/

theorem exec_guideLaw (i : Instr) {s : State} (h : GuideLaw s) : ∃ t, exec i s = .next t ∧ GuideLaw t := by
  have hnow : ∀ dt, GuideLaw (advance dt s) := advance_guideLaw h
  cases i with
  | powerOnReset strapHigh => exact ⟨_, rfl, powerOn_guideLaw strapHigh⟩
  | linkReset dt => exact ⟨_, rfl, guideLaw_ite (linkReset_guideLaw _) (hnow dt)⟩
  | mountLinkFrame dt octets => exact ⟨_, rfl, takeFrame_guideLaw (hnow dt) octets⟩
  | replySent dt => exact ⟨_, rfl, sendReply_guideLaw (hnow dt)⟩
  | unknownKind dt => exact ⟨_, rfl, serveUnknown_guideLaw (hnow dt)⟩
  | eventNotice dt => exact ⟨_, rfl, sendNotice_guideLaw (hnow dt)⟩
  | timeSet dt => exact ⟨_, rfl, serve_guideLaw (hnow dt) (answerTimeSet_guideLaw (hnow dt))⟩
  | keepalive dt => exact ⟨_, rfl, serve_guideLaw (hnow dt) (answerKeepalive_guideLaw (hnow dt))⟩
  | unpark dt => exact ⟨_, rfl, serve_guideLaw (hnow dt) fun _ => answerUnpark_guideLaw (hnow dt)⟩
  | run dt => exact ⟨_, rfl, serve_guideLaw (hnow dt) fun _ => answerRun_guideLaw (hnow dt)⟩
  | stop dt =>
    exact ⟨_, rfl, serve_guideLaw (hnow dt) fun _ => inObserving_guideLaw (hnow dt) (stopNight_guideLaw (hnow dt))⟩
  | hold dt =>
    exact ⟨_, rfl, serve_guideLaw (hnow dt) fun _ => inObserving_guideLaw (hnow dt) (hnow dt)⟩
  | resume dt =>
    exact ⟨_, rfl, serve_guideLaw (hnow dt) fun _ =>
      inObserving_guideLaw (hnow dt) (clearHold_guideLaw .operator (hnow dt))⟩
  | park dt =>
    exact ⟨_, rfl, serve_guideLaw (hnow dt) fun _ => inSupervised_guideLaw (hnow dt) (beginPark_guideLaw (hnow dt))⟩
  | stow dt =>
    exact ⟨_, rfl, serve_guideLaw (hnow dt) fun _ => inSupervised_guideLaw (hnow dt) (beginStow_guideLaw (hnow dt))⟩
  | release dt => exact ⟨_, rfl, serve_guideLaw (hnow dt) fun _ => answerRelease_guideLaw (hnow dt)⟩
  | faultClear dt => exact ⟨_, rfl, serve_guideLaw (hnow dt) fun _ => answerFaultClear_guideLaw (hnow dt)⟩
  | reset dt => exact ⟨_, rfl, serve_guideLaw (hnow dt) fun _ => answer_guideLaw (hnow dt) _ (hnow dt)⟩
  | entryAdd dt => exact ⟨_, rfl, serve_guideLaw (hnow dt) (answerEntryAdd_guideLaw (hnow dt))⟩
  | entryWithdraw dt => exact ⟨_, rfl, serve_guideLaw (hnow dt) (answerEntryWithdraw_guideLaw (hnow dt))⟩
  | listRead dt => exact ⟨_, rfl, serve_guideLaw (hnow dt) fun _ => answer_guideLaw (hnow dt) _ (hnow dt)⟩
  | outcomeFetch dt => exact ⟨_, rfl, serve_guideLaw (hnow dt) fun _ => answerOutcomeFetch_guideLaw (hnow dt)⟩
  | segmentPut dt => exact ⟨_, rfl, serve_guideLaw (hnow dt) (answerSegmentPut_guideLaw (hnow dt))⟩
  | guideCorrection dt => exact ⟨_, rfl, serve_guideLaw (hnow dt) (answerGuideCorrection_guideLaw (hnow dt))⟩
  | loadBegin dt => exact ⟨_, rfl, serve_guideLaw (hnow dt) (answerLoadBegin_guideLaw (hnow dt))⟩
  | loadData dt => exact ⟨_, rfl, serve_guideLaw (hnow dt) (answerLoadData_guideLaw (hnow dt))⟩
  | loadBurstEnd dt => exact ⟨_, rfl, serve_guideLaw (hnow dt) (answerLoadBurstEnd_guideLaw (hnow dt))⟩
  | loadEnd dt => exact ⟨_, rfl, serve_guideLaw (hnow dt) fun _ => answerLoadEnd_guideLaw (hnow dt)⟩
  | loadAbort dt => exact ⟨_, rfl, serve_guideLaw (hnow dt) fun _ => answerLoadAbort_guideLaw (hnow dt)⟩
  | tableRead dt => exact ⟨_, rfl, serve_guideLaw (hnow dt) (answerTableRead_guideLaw (hnow dt))⟩
  | capabilityRead dt => exact ⟨_, rfl, serve_guideLaw (hnow dt) fun _ => hnow dt⟩
  | statusRead dt => exact ⟨_, rfl, serve_guideLaw (hnow dt) (answerStatusRead_guideLaw (hnow dt))⟩
  | eventReadClear dt => exact ⟨_, rfl, serve_guideLaw (hnow dt) fun _ => hnow dt⟩
  | eventMaskSet dt => exact ⟨_, rfl, serve_guideLaw (hnow dt) fun _ => hnow dt⟩
  | encoderReport dt octets => exact ⟨_, rfl, takeBusFrame_guideLaw (hnow dt) octets⟩
  | demandExpiry dt => exact ⟨_, rfl, guideLaw_ite (expiry_guideLaw (hnow dt)) (hnow dt)⟩
  | notBeforeTimer dt => exact ⟨_, rfl, onExpiry_guideLaw (hnow dt) fun _ => notBeforeExpires_guideLaw (hnow dt)⟩
  | deadlineTimer dt => exact ⟨_, rfl, onExpiry_guideLaw (hnow dt) fun _ => select_guideLaw (hnow dt)⟩
  | trackWaitTimer dt => exact ⟨_, rfl, onExpiry_guideLaw (hnow dt) fun _ => select_guideLaw (hnow dt)⟩
  | settleDeadline dt => exact ⟨_, rfl, onExpiry_guideLaw (hnow dt) fun _ => settleExpires_guideLaw (hnow dt)⟩
  | silenceTimer dt => exact ⟨_, rfl, onExpiry_guideLaw (hnow dt) fun e => silenceExpires_guideLaw e (hnow dt)⟩
  | acquireTimer dt =>
    exact ⟨_, rfl, onExpiry_guideLaw (hnow dt) fun _ => endObservation_guideLaw .noGuide (hnow dt)⟩
  | lostTimer dt =>
    exact ⟨_, rfl, onExpiry_guideLaw (hnow dt) fun _ => endObservation_guideLaw .guideLost (hnow dt)⟩
  | restTimer dt => exact ⟨_, rfl, onExpiry_guideLaw (hnow dt) fun _ => hnow dt⟩
  | checkTimer dt => exact ⟨_, rfl, onExpiry_guideLaw (hnow dt) fun _ => enterFault_guideLaw (hnow dt)⟩
  | decayTimer dt => exact ⟨_, rfl, onExpiry_guideLaw (hnow dt) fun _ => guideLaw_ite (hnow dt) (hnow dt)⟩
  | enablingTimer dt => exact ⟨_, rfl, onExpiry_guideLaw (hnow dt) fun _ => enterFault_guideLaw (hnow dt)⟩
  | motionSettleDeadline dt => exact ⟨_, rfl, onExpiry_guideLaw (hnow dt) fun _ => enterFault_guideLaw (hnow dt)⟩
  | supervisionTimer dt => exact ⟨_, rfl, onExpiry_guideLaw (hnow dt) fun _ => superviseFail_guideLaw (hnow dt)⟩
  | planPass dt => exact ⟨_, rfl, runPass_guideLaw (hnow dt)⟩
  | planCompletion dt => exact ⟨_, rfl, completePlan_guideLaw (hnow dt)⟩
  | mountTimeHold => exact ⟨_, rfl, h⟩

theorem clockTick_guideLaw {s : State} (h : GuideLaw s) : GuideLaw (clockTick s) := by
  unfold clockTick
  split
  · exact advance_guideLaw h 1
  · exact h
  · exact h

/-- Settles O12: the phase leaves TRACKING only at an ending, an activation or a reset, which make the offsets 0, and
a correction is accepted in TRACKING alone. -/
theorem everyStepKeepsOffsetsZeroOutsideTracking : Obligations.EveryStepKeepsOffsetsZeroOutsideTracking := by
  unfold Obligations.EveryStepKeepsOffsetsZeroOutsideTracking
  intro s t h hstep
  unfold step at hstep
  split at hstep
  · cases hstep
    exact clockTick_guideLaw h
  · next i rest _ =>
    obtain ⟨u, hexec, hu⟩ := exec_guideLaw i (s := s.setPending rest) h
    rw [hexec] at hstep
    cases hstep
    exact hu

end Sys2Proof.Proofs.Guiding
end

section
/-! Corrections and silence (R106 to R108, R110, R112, R115). -/

namespace Sys2Proof.Proofs.Guiding
open Sys2Proof.Machine Sys2Proof.Proofs.SlewPlanning Sys2Proof.Proofs.DemandComputation

/-! ## The guide step (R106, R107) -/

/-- R106, R107: the move of one axis as the manual writes it: the scaled step, held within the step maximum, moves the
offset, which is held within the total maximum. -/
def heldMove (p : AxisParams) (old d : Int) : GuideMove :=
  let scaled := nearest ((p.gain : Int) * d) 1000
  let summed := old + max (-p.stepMax) (min p.stepMax scaled)
  let new := max (-p.totalMax) (min p.totalMax summed)
  ⟨new, new - old, decide (p.stepMax < scaled.natAbs), decide (p.totalMax < summed.natAbs)⟩

theorem guideMove_eq_heldMove {p : AxisParams} (old d : Int) (hstep : 0 ≤ p.stepMax) (htotal : 0 ≤ p.totalMax) :
    guideMove p old d = heldMove p old d := by
  have hsymm : ∀ (m v : Int), 0 ≤ m → clampInt (-m) m v = max (-m) (min m v) := fun m v hm =>
    clampInt_eq v (by omega)
  simp only [guideMove, heldMove, hsymm _ _ hstep, hsymm _ _ htotal]

theorem saturated_eq_any (az el : GuideMove) :
    saturated az el = [az.stepBit, az.totalBit, el.stepBit, el.totalBit].any id := by
  simp [saturated, Bool.or_assoc]

/-! ## An accepted correction (R108, R115) -/

/-- R108: the part after an accepted correction, with its counters in the active-target record. -/
def corrected (q : BitVec 16) (az el : GuideMove) (s : State) : State := copyCounters (acceptCorrection q az el s)

section
variable (q : BitVec 16) (az el : GuideMove) (s : State)

theorem corrected_guide :
    (corrected q az el s).guide = { s.guide with
      azOffset := az.offset, elOffset := el.offset, lastSeq := some q, phase := .guiding
      corrections := bump s.guide.corrections
      saturations := if saturated az el then bump s.guide.saturations else s.guide.saturations
      silenceTimer := some (s.now + 3000000), acquireTimer := none, lostTimer := none } := by
  simp only [corrected, copyCounters, State.setSeq_guide, acceptCorrection, latchGuideChange_units,
    State.setGuide_guide]
  rfl

theorem corrected_seq :
    (corrected q az el s).seq = { s.seq with atr := { s.seq.atr with
      corrections := (corrected q az el s).guide.corrections
      saturations := (corrected q az el s).guide.saturations } } := by
  simp [corrected, copyCounters]

/-- R115: GUIDE_CHANGED latches unless the state was GUIDING; no unit but the Guide Unit and the Sequencer changes. -/
theorem corrected_event :
    Event (if s.guide.phase = .guiding then [] else [.guideChanged])
      [.store, .planner, .traj, .bus, .gust, .mode, .tables] s (corrected q az el s) where
  left := setSeq_link (acceptCorrection_link (.refl s))
  right := ⟨latchGuideChange_latches s.guide.phase _, by simp [Keeps, Part.same, corrected, copyCounters]⟩

end

/-- R105, R106, R108: the answer to a correction that passes the checks. -/
theorem answerGuideCorrection_of_passed {p : List Byte} {s : State}
    (h : correctionFailure (readCorrection p) s = none) {az el : GuideMove}
    (haz : guideMove (params s).az s.guide.azOffset (fieldInt p 4 4) = az)
    (hel : guideMove (params s).el s.guide.elOffset (fieldInt p 8 4) = el) :
    answerGuideCorrection p s
      = let u := corrected (BitVec.ofNat 16 (fieldNat p 2 2)) az el s
        accept (acceptedReply az el u) u := by
  subst haz hel
  rw [answerGuideCorrection, h]
  rfl

/-- R108, R202: the reply of an accepted correction shows the state GUIDING, both moves and the counts. -/
theorem acceptedReply_corrected (q : BitVec 16) (az el : GuideMove) (s : State) :
    acceptedReply az el (corrected q az el s)
      = beOctets 1 2 ++ encInt 4 az.offset ++ encInt 4 el.offset ++ encInt 4 az.applied ++ encInt 4 el.applied
        ++ encMarks [az.stepBit, az.totalBit, el.stepBit, el.totalBit]
        ++ encNat 2 (corrected q az el s).guide.corrections ++ encNat 2 (corrected q az el s).guide.saturations := by
  have hoctet : encNat 1 GuidePhase.guiding.code = beOctets 1 2 := rfl
  simp only [acceptedReply, clampOctet, corrected_guide, hoctet]

/-- R191: the Guide Unit and the Sequencer after a request that its owner has answered. -/
theorem serve_guide_seq {k : Nat} {f : Frame} {s : State} {ok : Nat → Bool} {owner : List Byte → State → Answer}
    (h : Requested k f s) (hl : ok f.payload.length = true) :
    (serve k ok owner s).guide = (owner f.payload s).state.guide
      ∧ (serve k ok owner s).seq = (owner f.payload s).state.seq := by
  rw [serve_of_requested ok owner h, if_pos hl]
  simp

/-- R108: the taking of a correction that passes the checks. -/
theorem serve_corrected {f : Frame} {s : State} (hreq : Requested 18 f s) (hlen : f.payload.length = 12)
    (hpassed : correctionFailure (readCorrection f.payload) s = none) {az el : GuideMove}
    (haz : guideMove (params s).az s.guide.azOffset (fieldInt f.payload 4 4) = az)
    (hel : guideMove (params s).el s.guide.elOffset (fieldInt f.payload 8 4) = el) :
    let u := corrected (BitVec.ofNat 16 (fieldNat f.payload 2 2)) az el s
    let t := serve 18 (fun n => n == 12) answerGuideCorrection s
    Effect f .ok (acceptedReply az el u) (if s.guide.phase = .guiding then [] else [.guideChanged])
        [.store, .planner, .traj, .bus, .gust, .mode, .tables] s t
      ∧ t.guide = u.guide ∧ t.seq = u.seq := by
  intro u t
  have hanswer : answerGuideCorrection f.payload s = accept (acceptedReply az el u) u :=
    answerGuideCorrection_of_passed hpassed haz hel
  have hok : (f.payload.length == 12) = true := by simp [hlen]
  obtain ⟨hgrows, hlatches, hkeeps⟩ := corrected_event (BitVec.ofNat 16 (fieldNat f.payload 2 2)) az el s
  have heffect := serve_effect (ok := fun n => n == 12) (owner := answerGuideCorrection) hreq hok
    (by rw [hanswer]; exact hgrows) (by rw [hanswer]; exact hlatches) (by rw [hanswer]; exact hkeeps) (by decide)
  have hunits := serve_guide_seq (ok := fun n => n == 12) (owner := answerGuideCorrection) hreq hok
  rw [hanswer] at heffect hunits
  exact ⟨heffect, hunits⟩

/-! ## Silence (R110, R112, R115) -/

theorem exec_silenceTimer {dt e : Nat} {s : State} (he : s.guide.silenceTimer = some e)
    (hdue : e ≤ (advance dt s).now) :
    exec (.silenceTimer dt) s = .next (silenceExpires e (advance dt s)) := by
  show Host.Outcome.next (onExpiry s.guide.silenceTimer silenceExpires (advance dt s)) = _
  rw [he, onExpiry, if_pos hdue]

/-- R110, R112: the state is LOST, and with guide mode REQUIRED the lost timer runs from the expiry. -/
theorem silenceExpires_guide (e : Nat) (s : State) :
    (silenceExpires e s).guide = { s.guide with
      phase := .lost, silenceTimer := none
      lostTimer := if s.guide.mode = .required then some (e + 9000000) else s.guide.lostTimer } := by
  simp only [silenceExpires, latchGuideChange_units, State.setGuide_guide]
  rfl

/-- R115: GUIDE_CHANGED latches unless the state was LOST; no unit but the Guide Unit changes. -/
theorem silenceExpires_event (e : Nat) (s : State) :
    Event (if s.guide.phase = .lost then [] else [.guideChanged])
      [.seq, .store, .planner, .traj, .bus, .gust, .mode, .tables] s (silenceExpires e s) :=
  ⟨silenceExpires_link (.refl s), latchGuideChange_latches s.guide.phase _, by simp [Keeps, Part.same]⟩

/-- Settles O51: an accepted correction is one move of each axis (`guideMove_eq_heldMove`) and one change of the Guide
Unit (`corrected_guide`), which the active-target record copies; silence is one change of the Guide Unit. -/
theorem correctionsMoveTheOffsetsAndSilenceLosesTheGuide :
    Obligations.CorrectionsMoveTheOffsetsAndSilenceLosesTheGuide := by
  unfold Obligations.CorrectionsMoveTheOffsetsAndSilenceLosesTheGuide
  refine ⟨fun dt e a b c f s hreq hlen => ?accepted, fun dt e s he hdue => ?silence⟩
  case accepted =>
    intro target seq hold scaled summed az el newAz newEl bites htarget hazLo hazHi helLo helHi hactive hid hphase
      hmode hsuspended hseq hstatus hparams haStep haTotal hbStep hbTotal
    have hread : params (advance dt s) = ⟨a, b, c⟩ := by
      rw [params_congr (s := s) (by simp), params, validParams, if_pos hstatus, hparams]
      rfl
    have hunits : (advance dt s).guide = s.guide ∧ (advance dt s).seq = s.seq := by simp
    obtain ⟨hguideNow, hseqNow⟩ := hunits
    have hpassed : correctionFailure (readCorrection f.payload) (advance dt s) = none := by
      rw [correctionFailure_eq_none_iff, hguideNow, hseqNow]
      exact ⟨⟨htarget, errorInRange_iff.mpr ⟨hazLo, hazHi⟩, errorInRange_iff.mpr ⟨helLo, helHi⟩⟩, ⟨e, hactive, hid⟩,
        hphase, hmode, hsuspended, fun old hlast => (seqLater_iff _ old).mpr (hseq old hlast)⟩
    have haz : guideMove (params (advance dt s)).az (advance dt s).guide.azOffset az
        = heldMove a s.guide.azOffset az := by
      rw [hread, hguideNow]
      exact guideMove_eq_heldMove _ az haStep haTotal
    have hel : guideMove (params (advance dt s)).el (advance dt s).guide.elOffset el
        = heldMove b s.guide.elOffset el := by
      rw [hread, hguideNow]
      exact guideMove_eq_heldMove _ el hbStep hbTotal
    obtain ⟨heffect, hguide, hrecord⟩ := serve_corrected (hreq.advance dt) hlen hpassed haz hel
    refine ⟨_, rfl, ?_, ?_, ?_⟩
    · rw [acceptedReply_corrected, ← hguide, hguideNow] at heffect
      exact heffect
    · rw [hguide, corrected_guide, hguideNow, saturated_eq_any]
      rfl
    · rw [hrecord, corrected_seq, hguide, hseqNow]
  case silence =>
    refine ⟨_, exec_silenceTimer he hdue, ?_, ?_⟩
    · simpa using silenceExpires_event e (advance dt s)
    · simpa using silenceExpires_guide e (advance dt s)

end Sys2Proof.Proofs.Guiding
end
